-- ==== Sys2Proof/Word.lean ====
section
/-! DEFINITION. The byte of a Zone Link frame, the numberings of 00_scope.md (towers, zones, job slots, curve slots)
and tables indexed by them. -/

namespace Sys2Proof

/-- One byte of a Zone Link frame (R143). -/
abbrev Byte := BitVec 8

/-- Towers are numbered 0 to 11 (00_scope.md, Numbering). -/
abbrev TowerIdx := Fin 12

/-- Zones within a tower; the Controller keeps state for 48 zones of each tower (R52, R73). -/
abbrev ZoneIdx := Fin 48

/-- Job slots are numbered 0 and 1. -/
abbrev SlotIdx := Fin 2

/-- Curve slots are numbered 0 to 31. -/
abbrev CurveIdx := Fin 32

/-- The entry of a table at an index. -/
def look {n : Nat} {α : Type} (v : Vector α n) (i : Fin n) : α := v[i]

/-- A table with one entry replaced. -/
def put {n : Nat} {α : Type} (v : Vector α n) (i : Fin n) (x : α) : Vector α n := v.set i x

/-- The table whose entry at `i` is `f i`. -/
def tab {n : Nat} {α : Type} (f : Fin n → α) : Vector α n :=
  ⟨⟨(List.finRange n).map f⟩, by simp⟩

/-- A table with one entry for each of the 12 × 48 zones. -/
abbrev ZoneTable (α : Type) := Vector (Vector α 48) 12

/-- The entry of zone `z` of tower `t`. -/
def zlook {α : Type} (v : ZoneTable α) (t : TowerIdx) (z : ZoneIdx) : α := look (look v t) z

/-- A zone table with the entry of one zone replaced. -/
def zput {α : Type} (v : ZoneTable α) (t : TowerIdx) (z : ZoneIdx) (x : α) : ZoneTable α :=
  put v t (put (look v t) z x)

/-- The zone table whose entry at zone `z` of tower `t` is `f t z`. -/
def ztab {α : Type} (f : TowerIdx → ZoneIdx → α) : ZoneTable α := tab fun t => tab fun z => f t z

/-- The towers in ascending order. -/
def allTowers : List TowerIdx := List.finRange 12

/-- The zone numbers in ascending order. -/
def allZones : List ZoneIdx := List.finRange 48

/-- Every zone of the press, towers ascending and zones ascending within a tower. -/
def allPairs : List (TowerIdx × ZoneIdx) := allTowers.flatMap fun t => allZones.map fun z => (t, z)

end Sys2Proof
end

