-- ==== Sys2Proof/Syntax.lean ====
section
/-! DEFINITION. The commands: one constructor for each row of spec/opcode_table.json. -/

namespace Sys2Proof

/-- The steps of the Controller, each whole and indivisible (95_what_each_step_holds.md).

A request step stands for the taking of a request of that kind from the head of the U Receive Queue (R152); its operands
are the payload of that frame (R160), so the constructor has none of its own. The frames reach the queue by
`portUFrameReceived`, whose operand is the bytes on the line. -/
inductive Instr where
  /-- LOAD_CURVE (R3). -/
  | loadCurve
  /-- ERASE_CURVE (R4). -/
  | eraseCurve
  /-- READ_CURVE (R8). -/
  | readCurve
  /-- SET_JOB_LABEL (R28). -/
  | setJobLabel
  /-- CONFIGURE_TOWER (R22). -/
  | configureTower
  /-- SET_TARGETS (R25). -/
  | setTargets
  /-- LOAD_ZONE_MAP (R26). -/
  | loadZoneMap
  /-- SET_OFFSETS (R69). -/
  | setOffsets
  /-- CLEAR_JOB (R29). -/
  | clearJob
  /-- READ_SETTINGS (R31). -/
  | readSettings
  /-- STRIP_OPEN (R36). -/
  | stripOpen
  /-- STRIP_SEGMENT (R41). -/
  | stripSegment
  /-- STRIP_CLOSE (R46). -/
  | stripClose
  /-- ZONE_COMPUTATION (R56): the Zone Engine computes the zone at the cursor of tower `t`'s pass. -/
  | zoneComputation (t : TowerIdx)
  /-- SET_MOTION_LIMITS (R83). -/
  | setMotionLimits
  /-- CLEAR_KEY_FAULT (R94). -/
  | clearKeyFault
  /-- MOVE_TIMEOUT (R91): the running move timer of zone `z` of tower `t` expires. -/
  | moveTimeout (t : TowerIdx) (z : ZoneIdx)
  /-- DENSITY_FRAME_TAKEN (R103). -/
  | densityFrameTaken
  /-- ARM_TRIM (R113). -/
  | armTrim
  /-- CLEAR_TRIM (R114). -/
  | clearTrim
  /-- LOAD_TRIM_BANDS (R115). -/
  | loadTrimBands
  /-- PRESS_PHASE (R123). -/
  | pressPhase
  /-- CHANGEOVER (R125). -/
  | changeover
  /-- CANCEL_CHANGEOVER (R126). -/
  | cancelChangeover
  /-- SHEET_MARK (R121): a rising edge on SHM. -/
  | sheetMark
  /-- SET_NOTICE_CONTROL (R139). -/
  | setNoticeControl
  /-- CLEAR_PENDING (R140). -/
  | clearPending
  /-- READ_ZONE (R155). -/
  | readZone
  /-- READ_TOWER (R156). -/
  | readTower
  /-- READ_STATUS (R157). -/
  | readStatus
  /-- BRIDGE_RESET (R158). -/
  | bridgeReset
  /-- UNKNOWN_REQUEST_KIND (R153). -/
  | unknownRequestKind
  /-- PORT_U_FRAME_RECEIVED (R146): the run of bytes that ended on Port U. -/
  | portUFrameReceived (bytes : List Byte)
  /-- PORT_D_FRAME_RECEIVED (R147): the run of bytes that ended on Port D. -/
  | portDFrameReceived (bytes : List Byte)
  /-- PORT_M_FRAME_RECEIVED (R148): the run of bytes that ended on Port M. -/
  | portMFrameReceived (bytes : List Byte)
  /-- PORT_U_TRANSMIT_ARBITER (R150): the Port U transmitter is free and the arbiter chooses. -/
  | portUTransmitArbiter
  /-- PORT_D_TRANSMIT_ARBITER (R151): the Port D transmitter is free and the arbiter chooses. -/
  | portDTransmitArbiter
  /-- POWER_ON_RESET (R159): power-up, or RESET asserted. -/
  | powerOnReset
  /-- RESET_RELEASE (R145): RESET is released with the strap pins ADR2..ADR0 at `straps`. -/
  | resetRelease (straps : BitVec 3)
  deriving DecidableEq, Repr

end Sys2Proof
end

