-- ==== Sys2Proof/Config.lean ====
section
/-! DEFINITION. What the part fixes (addresses, capacities, codes, part number) and the one free value of the model. -/

namespace Sys2Proof.Config

/-- The bridge broadcast address (R145). -/
def broadcast : Byte := 0x38

/-- The console's address (R145). -/
def console : Byte := 0x3F

/-- The address of the Tower Drive Module of tower 0; tower `t` has `0x10 + t` (R145). -/
def towerBase : Nat := 0x10

/-- The controller address with all strap pins 0 (R145). -/
def controllerBase : Byte := 0x30

/-- Capacities of the five frame queues (R149). -/
def uReceiveCap : Nat := 8
/-- Capacity of the Response Queue (R149). -/
def responseCap : Nat := 4
/-- Capacity of the Up Forward Queue (R149). -/
def upForwardCap : Nat := 16
/-- Capacity of the Down Forward Queue (R149). -/
def downForwardCap : Nat := 16
/-- Capacity of the M Receive Queue (R149). -/
def mReceiveCap : Nat := 4

/-- The greatest Sheet Count, at which it is held (R121). -/
def sheetMax : Nat := 4294967295

/-- The greatest value of a strip count, at which it is held (03, table of section 3.1). -/
def countMax : Nat := 65535

/-- The greatest occurrence count of a Notice Record, at which it is held (R135). -/
def occurrenceMax : Nat := 255

/-- The distance at which a key of UNKNOWN position counts (R79). -/
def unknownDistance : Nat := 4096

/-- The part code reported by Read Status (R157). -/
def partCode : Nat := 0x4812

/-- The revision number reported by Read Status (R157). -/
def revision : Nat := 1

/-- FREE VALUE (log entry 6). What a Curve Evaluation that yields no value (R11) contributes to a Zone Computation or to a
sweep: R11 refers to Key Target Computation for its meaning, and that chapter states none. Nothing constrains it; the
argument is the model's counter `State.freeCount`, so two uses need not agree. -/
opaque missingCurveValue : Nat → Nat

end Sys2Proof.Config
end

