-- ==== Sys2Proof/Machine/State.lean ====
section
/-! DEFINITION. The state of the Controller, block by block as 00_scope.md lists its blocks, and its value after power-on
reset. -/

namespace Sys2Proof.Machine

/-! ### Curve Library (chapter 1) -/

/-- The kind of a curve: KEY gives a key opening, SWEEP a sweep value (section 1.1). -/
inductive CurveKind where
  | key
  | sweep
  deriving DecidableEq, Repr

/-- The contents of a LOADED curve slot (R1). A vertex is a pair of its coverage x and its output y. -/
structure Curve where
  kind : CurveKind
  label : Option (List Byte)
  vertices : List (Nat × Nat)
  deriving DecidableEq, Repr

/-- The 32 curve slots; an EMPTY slot is `none` (R1). -/
abbrev Library := Vector (Option Curve) 32

/-! ### Job Store (chapter 2) -/

/-- The Press Phases (R120). -/
inductive Phase where
  | idle
  | makeready
  | print
  | wash
  deriving DecidableEq, Repr

/-- A set of Press Phases (section 2.3). -/
structure PhaseSet where
  idle : Bool
  makeready : Bool
  print : Bool
  wash : Bool
  deriving DecidableEq, Repr

/-- A tower's zone map: the zone count Z, the first edge E0 and the zone width W (section 2.7). -/
structure ZoneMap where
  zones : Nat
  edge : Nat
  width : Nat
  deriving DecidableEq, Repr

/-- The strip state of a tower: NONE, OPEN or CLOSED (section 3.2). -/
inductive StripState where
  | none
  | opened
  | closed
  deriving DecidableEq, Repr

/-- The trim modes (R112). -/
inductive TrimMode where
  | continuous
  | single
  deriving DecidableEq, Repr

/-- A Tower Settings record (table of section 2.3). `offsets` holds one value per zone of the zone map, and nothing while
the zone map is absent. -/
structure TowerSettings where
  enabled : Bool
  keyCurve : Option CurveIdx
  sweepCurve : Option CurveIdx
  sideWeight : Nat
  scale : Nat
  keyMax : Nat
  deadband : Nat
  movePhases : PhaseSet
  trimPhases : PhaseSet
  zoneMap : Option ZoneMap
  strip : StripState
  coverage : Option (List Nat)
  offsets : List Int
  target : Nat
  tolLow : Nat
  tolHigh : Nat
  avgCount : Nat
  settleSheets : Nat
  trimLimit : Nat
  trimMode : TrimMode
  deriving DecidableEq, Repr

/-- The default Tower Settings record (R19). -/
def TowerSettings.default : TowerSettings where
  enabled := false
  keyCurve := none
  sweepCurve := none
  sideWeight := 32
  scale := 1024
  keyMax := 4095
  deadband := 4
  movePhases := ⟨true, true, true, false⟩
  trimPhases := ⟨false, false, true, false⟩
  zoneMap := none
  strip := .none
  coverage := none
  offsets := []
  target := 1400
  tolLow := 50
  tolHigh := 50
  avgCount := 4
  settleSheets := 20
  trimLimit := 400
  trimMode := .continuous

/-- The contents of a Job Slot that is not EMPTY: label, twelve records and their ready indications (R14, R20). -/
structure Job where
  label : Option (List Byte)
  towers : Vector TowerSettings 12
  ready : Vector Bool 12
  deriving DecidableEq, Repr

/-- What an EMPTY slot reads as: no label, twelve default records, none ready (R14). -/
def Job.default : Job where
  label := none
  towers := Vector.replicate 12 .default
  ready := Vector.replicate 12 false

/-- The states of a Job Slot that holds a job (R15). -/
inductive Role where
  | loading
  | ready
  | armed
  | running
  deriving DecidableEq, Repr

/-- A Job Slot: EMPTY, or holding a job in one of the other four states (R14, R15). -/
inductive JobSlot where
  | empty
  | held (role : Role) (job : Job)
  deriving DecidableEq, Repr

/-! ### Strip Integrator (chapter 3) -/

/-- The order in which strip indices run across the sheet (R44). -/
inductive ScanOrder where
  | ascending
  | descending
  deriving DecidableEq, Repr

/-- The contents of a bound Strip Assembly Buffer (R34). -/
structure Buffer where
  slot : SlotIdx
  tower : TowerIdx
  length : Nat
  order : ScanOrder
  received : List Bool
  acc : List Nat
  receivedCount : Nat
  duplicateCount : Nat
  excessCount : Nat
  clampedCount : Nat
  deriving DecidableEq, Repr

/-! ### Zone Engine (chapter 4) -/

/-- The fields E, B and K of a zone. They are written together and become absent together (R52). -/
structure Target where
  e : Nat
  b : Nat
  k : Nat
  deriving DecidableEq, Repr

/-- The state of a Tower Pass (R53). -/
inductive PassState where
  | none
  | active
  deriving DecidableEq, Repr

/-- A Tower Pass record (R53). -/
structure TowerPass where
  state : PassState
  cursor : Nat
  rerun : Bool
  mean : Option Nat
  sweep : Option Nat
  deriving DecidableEq, Repr

/-- The Zone Engine: E, B and K of every zone, and the Tower Pass records. -/
structure Engine where
  targets : ZoneTable (Option Target)
  passes : Vector TowerPass 12
  deriving DecidableEq, Repr

/-! ### Motion Scheduler (chapter 5) -/

/-- The motion states of a zone (R73). -/
inductive MotionState where
  | noTarget
  | atTarget
  | pending
  | moving
  | retry
  | faulted
  deriving DecidableEq, Repr

/-- The motion fields of a zone (section 5.1). `actual` is `none` while the position is UNKNOWN; `timer` is `none` while
the move timer is stopped and else its expiry time in milliseconds. -/
structure MotionZone where
  state : MotionState
  actual : Option Nat
  commanded : Option Nat
  tag : BitVec 8
  timer : Option Nat
  settleUntil : Nat
  deriving DecidableEq, Repr

/-- An entry of the Drive Command Queue (R76). -/
inductive DriveEntry where
  | move (t : TowerIdx) (z : ZoneIdx) (target : Nat) (tag : BitVec 8)
  | sweep (t : TowerIdx) (value : Nat)
  deriving DecidableEq, Repr

/-- The Motion Scheduler: zone motion fields, Drive Command Queue, in-flight counts, limits, Restricted Motion, round-robin
pointer and Settle Watches (R73 to R98). The move timeout is held in steps of 10 ms. -/
structure Motion where
  zones : ZoneTable MotionZone
  queue : List DriveEntry
  inFlight : Vector Nat 12
  pressInFlight : Nat
  concurrency : Vector Nat 12
  cap : Nat
  timeout : Nat
  restricted : Bool
  pointer : TowerIdx
  watch : Vector Bool 12
  deriving DecidableEq, Repr

/-! ### Trim Unit (chapter 6) -/

/-- The trim fields of a zone (section 6.1). -/
structure TrimZone where
  trim : Int
  sum : Nat
  count : Nat
  lastAverage : Option Nat
  deriving DecidableEq, Repr

/-- A Trim Band: peak, left spread, right spread and step (R108). -/
structure Band where
  peak : Nat
  left : Nat
  right : Nat
  step : Nat
  deriving DecidableEq, Repr

/-- The Trim Unit: zone fields, Trim Armed and Trim Saturated of each tower, and the bands SMALL, MEDIUM, LARGE (R108). -/
structure Trim where
  zones : ZoneTable TrimZone
  armed : Vector Bool 12
  saturated : Vector Bool 12
  small : Band
  medium : Band
  large : Band
  deriving DecidableEq, Repr

/-! ### Cycle Unit (chapter 7) -/

/-- The record of an armed changeover: the armed slot and the carry flag, which are present together (R120). -/
structure ArmedChangeover where
  slot : SlotIdx
  carry : Bool
  deriving DecidableEq, Repr

/-- The Cycle Unit (R120). `hold` is the Hold Tower Set. -/
structure Cycle where
  sheetCount : Nat
  phase : Phase
  armed : Option ArmedChangeover
  hold : Vector Bool 12
  deriving DecidableEq, Repr

/-! ### Notice Unit (chapter 8) -/

/-- The Zone Link ports (R143). -/
inductive Port where
  | u
  | d
  | m
  deriving DecidableEq, Repr

/-- The five frame queues (R149). -/
inductive FrameQueue where
  | uReceive
  | response
  | upForward
  | downForward
  | mReceive
  deriving DecidableEq, Repr

/-- The notice kinds, in kind-number order (R134). -/
inductive NoticeKind where
  | keyFault
  | changeoverDone
  | motionRestricted
  | overrun
  | trimLimit
  | linkError
  | densityOut
  | settled
  deriving DecidableEq, Repr

/-- The detail of an occurrence (R134, Detail column). -/
inductive Detail where
  | absent
  | zone (t : TowerIdx) (z : ZoneIdx)
  | tower (t : TowerIdx)
  | queue (p : Port) (q : FrameQueue)
  | port (p : Port)
  deriving DecidableEq, Repr

/-- A pending Notice Record (table of section 8.2). `towers` is the tower set. -/
structure NoticeRecord where
  towers : Vector Bool 12
  count : Nat
  detail : Detail
  firstSheet : Nat
  deriving DecidableEq, Repr

/-- The Notice Unit: one record place per kind, the priorities, the enable set and Notices Off (R134, R139). -/
structure NoticeUnit where
  records : Vector (Option NoticeRecord) 8
  priorities : Vector Nat 8
  enabled : Vector Bool 8
  off : Bool
  deriving DecidableEq, Repr

/-! ### Link Controller (chapter 9) -/

/-- A good frame (R143, R144): its length field is the length of its payload and its check the CRC of what stands before
it, so neither is stored. -/
structure Frame where
  dst : Byte
  src : Byte
  kind : Byte
  payload : List Byte
  deriving DecidableEq, Repr

/-- The Link Controller: the five frame queues (head first), the frame each transmitter last took (`none` while it is
idle), the own address, and whether RESET is held active (R145, R149, R159). An M Receive Queue entry carries its Arrival
Sheet Count (R148). -/
structure Link where
  uReceive : List Frame
  responses : List Frame
  upForward : List Frame
  downForward : List Frame
  mReceive : List (Frame × Nat)
  uTransmit : Option Frame
  dTransmit : Option Frame
  ownAddress : Byte
  resetHeld : Bool
  deriving DecidableEq, Repr

end Sys2Proof.Machine

namespace Sys2Proof.Machine

/-- The state of the Controller. `clock` is the millisecond time base of 00_scope.md. `freeCount` and `pending` are the
model's own: the first numbers the uses of a free value, the second is the queue of commands waiting to be taken. -/
structure State where
  library : Library
  jobs : Vector JobSlot 2
  buffers : Vector (Option Buffer) 4
  engine : Engine
  motion : Motion
  trim : Trim
  cycle : Cycle
  notice : NoticeUnit
  link : Link
  clock : Nat
  freeCount : Nat
  pending : List Instr
  deriving DecidableEq, Repr

/-- Why the machine stops with a fault: never. The manual names no condition that stops the Controller, so no command
raises one and the type has no constructor. -/
inductive Fault where
  deriving DecidableEq, Repr

/-- Why a command has no meaning. -/
inductive Refusal where
  /-- Raised by `exec` alone, for a row of the opcode table whose meaning is not written; safe, since the machine then
  makes no step. No arm of `exec` raises it. -/
  | notModelled (mnemonic : String)
  deriving DecidableEq, Repr

/-! ### Power-on reset -/

/-- R98: every zone NO_TARGET, position UNKNOWN, commanded target absent, tag 0, timer stopped, settle-until 0. -/
def MotionZone.reset : MotionZone := ⟨.noTarget, none, none, 0, none, 0⟩

/-- R118: trim 0, averaging reset, last average absent. -/
def TrimZone.reset : TrimZone := ⟨0, 0, 0, none⟩

/-- R71: state NONE, cursor 0, rerun flag clear, pass mean and tower sweep absent. -/
def TowerPass.reset : TowerPass := ⟨.none, 0, false, none, none⟩

/-- R71: every E, B and K absent, every pass record reset. -/
def Engine.reset : Engine where
  targets := Vector.replicate 12 (Vector.replicate 48 none)
  passes := Vector.replicate 12 .reset

/-- R98. -/
def Motion.reset : Motion where
  zones := Vector.replicate 12 (Vector.replicate 48 .reset)
  queue := []
  inFlight := Vector.replicate 12 0
  pressInFlight := 0
  concurrency := Vector.replicate 12 2
  cap := 8
  timeout := 150
  restricted := false
  pointer := 0
  watch := Vector.replicate 12 false

/-- R118, with the bands of R108. -/
def Trim.reset : Trim where
  zones := Vector.replicate 12 (Vector.replicate 48 .reset)
  armed := Vector.replicate 12 false
  saturated := Vector.replicate 12 false
  small := ⟨0, 0, 100, 4⟩
  medium := ⟨100, 80, 120, 12⟩
  large := ⟨250, 120, 0, 30⟩

/-- R132. -/
def Cycle.reset : Cycle where
  sheetCount := 0
  phase := .idle
  armed := none
  hold := Vector.replicate 12 false

/-- R141, with the priorities of R139. -/
def NoticeUnit.reset : NoticeUnit where
  records := Vector.replicate 8 none
  priorities := #v[1, 2, 2, 2, 3, 3, 4, 5]
  enabled := Vector.replicate 8 true
  off := false

/-- R159: every queue empty and every transmitter idle; RESET is still held until RESET_RELEASE. The own address before
the strap pins are read is a DESIGN CHOICE (log entry 3): the address with all straps 0. -/
def Link.reset : Link where
  uReceive := []
  responses := []
  upForward := []
  downForward := []
  mReceive := []
  uTransmit := none
  dTransmit := none
  ownAddress := Config.controllerBase
  resetHeld := true

/-- The machine as power-on reset leaves it, with RESET still active (R12, R32, R50, R71, R98, R118, R132, R141, R159).
`clock`, `freeCount` and `pending` start at a value the model names (log entries 3 and 4). -/
def State.reset : State where
  library := Vector.replicate 32 none
  jobs := Vector.replicate 2 .empty
  buffers := Vector.replicate 4 none
  engine := .reset
  motion := .reset
  trim := .reset
  cycle := .reset
  notice := .reset
  link := .reset
  clock := 0
  freeCount := 0
  pending := []

/-! ### Block updates -/

/-- Replace the Curve Library. -/
def State.setLibrary (s : State) (x : Library) : State := { s with library := x }
/-- Replace the Job Slots. -/
def State.setJobs (s : State) (x : Vector JobSlot 2) : State := { s with jobs := x }
/-- Replace the Strip Assembly Buffers. -/
def State.setBuffers (s : State) (x : Vector (Option Buffer) 4) : State := { s with buffers := x }
/-- Replace the Zone Engine's state. -/
def State.setEngine (s : State) (x : Engine) : State := { s with engine := x }
/-- Replace the Motion Scheduler's state. -/
def State.setMotion (s : State) (x : Motion) : State := { s with motion := x }
/-- Replace the Trim Unit's state. -/
def State.setTrim (s : State) (x : Trim) : State := { s with trim := x }
/-- Replace the Cycle Unit's state. -/
def State.setCycle (s : State) (x : Cycle) : State := { s with cycle := x }
/-- Replace the Notice Unit's state. -/
def State.setNotice (s : State) (x : NoticeUnit) : State := { s with notice := x }
/-- Replace the Link Controller's state. -/
def State.setLink (s : State) (x : Link) : State := { s with link := x }
/-- Set the millisecond time base. -/
def State.setClock (s : State) (x : Nat) : State := { s with clock := x }
/-- Set the model's count of free values used. -/
def State.setFreeCount (s : State) (x : Nat) : State := { s with freeCount := x }
/-- Set the model's queue of waiting commands. -/
def State.setPending (s : State) (x : List Instr) : State := { s with pending := x }

end Sys2Proof.Machine
end

