-- ==== Sys2Proof/Machine/Arith.lean ====
section
/-! DEFINITION. The roundings and clamps of 00_scope.md (Rounding, Clamping, Held at maximum) and the numeric codes of
section 9.10. -/

namespace Sys2Proof.Machine

/-- Half up: floor((2a + b) / (2b)) for a non-negative quotient a / b. -/
def halfUp (a b : Nat) : Nat := (2 * a + b) / (2 * b)

/-- Nearest, ties away from zero, for a signed quotient a / b. -/
def roundNearest (a : Int) (b : Nat) : Int :=
  if a < 0 then -(halfUp a.natAbs b : Int) else (halfUp a.natAbs b : Int)

/-- Replace a value below the range by the lower bound and a value above it by the upper bound. -/
def clampInt (lo hi x : Int) : Int := max lo (min hi x)

/-- Increment a counter that is held at its greatest value. -/
def incHeld (limit n : Nat) : Nat := min limit (n + 1)

/-- The distance |a − b|. -/
def distance (a b : Nat) : Nat := (a - b) + (b - a)

/-- The value of a 16-bit field read as two's complement. -/
def signed16 (n : Nat) : Int := if n < 32768 then (n : Int) else (n : Int) - 65536

/-- 1 for set, yes or present, 0 for clear, no or absent (R160). -/
def flagNum (b : Bool) : Nat := if b then 1 else 0

/-- The number with bit `i` set for each member `i` of a set (section 9.10). -/
def setNum {n : Nat} (v : Vector Bool n) : Nat :=
  (List.finRange n).foldl (fun acc i => acc + flagNum (look v i) * 2 ^ i.val) 0

/-- Curve kinds: KEY 0, SWEEP 1 (R160). -/
def CurveKind.num : CurveKind → Nat
  | .key => 0
  | .sweep => 1

/-- The curve kind of a code, where it is one (R160). -/
def CurveKind.ofNum? : Nat → Option CurveKind
  | 0 => some .key
  | 1 => some .sweep
  | _ => none

/-- Phases: IDLE 0, MAKEREADY 1, PRINT 2, WASH 3 (section 9.10). -/
def Phase.num : Phase → Nat
  | .idle => 0
  | .makeready => 1
  | .print => 2
  | .wash => 3

/-- The phase of a code, where it is one. -/
def Phase.ofNum? : Nat → Option Phase
  | 0 => some .idle
  | 1 => some .makeready
  | 2 => some .print
  | 3 => some .wash
  | _ => none

/-- Whether a phase is a member of a phase set. -/
def PhaseSet.has (p : PhaseSet) : Phase → Bool
  | .idle => p.idle
  | .makeready => p.makeready
  | .print => p.print
  | .wash => p.wash

/-- A phase set as one byte with bit p set for the phase whose code is p (R160). -/
def PhaseSet.num (p : PhaseSet) : Nat :=
  flagNum p.idle + 2 * flagNum p.makeready + 4 * flagNum p.print + 8 * flagNum p.wash

/-- The phase set of a byte whose bits 7 to 4 are zero. -/
def PhaseSet.ofNum (n : Nat) : PhaseSet := ⟨n.testBit 0, n.testBit 1, n.testBit 2, n.testBit 3⟩

/-- Trim modes: CONTINUOUS 0, SINGLE 1 (R160). -/
def TrimMode.num : TrimMode → Nat
  | .continuous => 0
  | .single => 1

/-- Strip states: NONE 0, OPEN 1, CLOSED 2 (section 9.10). -/
def StripState.num : StripState → Nat
  | .none => 0
  | .opened => 1
  | .closed => 2

/-- Tower Pass states: NONE 0, ACTIVE 1 (R160). -/
def PassState.num : PassState → Nat
  | .none => 0
  | .active => 1

/-- Motion states: NO_TARGET 0 to FAULTED 5 (section 9.10). -/
def MotionState.num : MotionState → Nat
  | .noTarget => 0
  | .atTarget => 1
  | .pending => 2
  | .moving => 3
  | .retry => 4
  | .faulted => 5

/-- Job Slot states: EMPTY 0, LOADING 1, READY 2, ARMED 3, RUNNING 4 (section 9.10). -/
def JobSlot.num : JobSlot → Nat
  | .empty => 0
  | .held .loading _ => 1
  | .held .ready _ => 2
  | .held .armed _ => 3
  | .held .running _ => 4

/-- Ports: U 0, D 1, M 2 (section 9.10). -/
def Port.num : Port → Nat
  | .u => 0
  | .d => 1
  | .m => 2

/-- Queues: U Receive 0, Response 1, Up Forward 2, Down Forward 3, M Receive 4 (section 9.10). -/
def FrameQueue.num : FrameQueue → Nat
  | .uReceive => 0
  | .response => 1
  | .upForward => 2
  | .downForward => 3
  | .mReceive => 4

/-- The kind number of a notice kind (R134). -/
def NoticeKind.num : NoticeKind → Fin 8
  | .keyFault => 0
  | .changeoverDone => 1
  | .motionRestricted => 2
  | .overrun => 3
  | .trimLimit => 4
  | .linkError => 5
  | .densityOut => 6
  | .settled => 7

/-- The result codes (R153). -/
inductive ResultCode where
  | ok
  | busy
  | state
  | range
  | noRoom
  | inUse
  | notReady
  | unknown
  deriving DecidableEq, Repr

/-- The number of a result code (table of R153). -/
def ResultCode.num : ResultCode → Nat
  | .ok => 0
  | .busy => 1
  | .state => 2
  | .range => 3
  | .noRoom => 4
  | .inUse => 5
  | .notReady => 6
  | .unknown => 7

end Sys2Proof.Machine
end

