-- ==== Sys2Proof/Machine/Frame.lean ====
section
/-! DEFINITION. Frames on the line: byte order, CRC, the checks at arrival and the bytes of a frame (R143, R144), and the
kind codes of section 9.10. -/

namespace Sys2Proof.Machine

/-- One byte. -/
def byte1 (n : Nat) : List Byte := [BitVec.ofNat 8 n]

/-- A 2-byte value, high byte first (section 9.10). -/
def byte2 (n : Nat) : List Byte := [BitVec.ofNat 8 (n / 256), BitVec.ofNat 8 n]

/-- A 4-byte value, high byte first (section 9.10). -/
def byte4 (n : Nat) : List Byte := byte2 (n / 65536) ++ byte2 n

/-- One bit through the CRC of R143: polynomial x^16 + x^12 + x^5 + 1. -/
def crcBit (c : BitVec 16) : BitVec 16 :=
  if c.msb then (c <<< 1) ^^^ 0x1021#16 else c <<< 1

/-- `n` bits through the CRC. -/
def crcBits : Nat → BitVec 16 → BitVec 16
  | 0, c => c
  | n + 1, c => crcBits n (crcBit c)

/-- One byte through the CRC, most significant bit first (R143). -/
def crcByte (c : BitVec 16) (b : Byte) : BitVec 16 :=
  crcBits 8 (c ^^^ (b.zeroExtend 16 <<< 8))

/-- The frame check: initial value all ones, no reflection, no final XOR (R143). -/
def crc (bytes : List Byte) : BitVec 16 := bytes.foldl crcByte 0xFFFF#16

/-- The two check bytes, high byte first (R143). -/
def checkBytes (bytes : List Byte) : List Byte := byte2 (crc bytes).toNat

/-- Header and payload of a frame, in the order sent (R143). -/
def Frame.body (f : Frame) : List Byte :=
  [f.dst, f.src, f.kind, BitVec.ofNat 8 f.payload.length] ++ f.payload

/-- The bytes of a frame on the line (R143). -/
def Frame.bytes (f : Frame) : List Byte := f.body ++ checkBytes f.body

/-- The tests of R144 on a received run of bytes: `none` for a frame to be discarded, else the good frame. -/
def parseFrame (bytes : List Byte) : Option Frame :=
  match bytes with
  | dst :: src :: kind :: len :: rest =>
    if bytes.length < 6 then none
    else if 240 < len.toNat ∨ bytes.length ≠ len.toNat + 6 then none
    else if checkBytes (bytes.take (4 + len.toNat)) ≠ bytes.drop (4 + len.toNat) then none
    else some ⟨dst, src, kind, rest.take len.toNat⟩
  | _ => none

/-! ### Kind codes (section 9.10) -/

/-- The frame kinds a request can have, with their codes (section 9.10). -/
inductive RequestKind where
  | loadCurve
  | eraseCurve
  | readCurve
  | setJobLabel
  | configureTower
  | setTargets
  | loadZoneMap
  | setOffsets
  | clearJob
  | readSettings
  | stripOpen
  | stripSegment
  | stripClose
  | setMotionLimits
  | clearKeyFault
  | armTrim
  | clearTrim
  | loadTrimBands
  | pressPhase
  | changeover
  | cancelChangeover
  | setNoticeControl
  | clearPending
  | readZone
  | readTower
  | readStatus
  | bridgeReset
  deriving DecidableEq, Repr

/-- The kind code of a request kind (table of section 9.10). -/
def RequestKind.code : RequestKind → Byte
  | .loadCurve => 0x01
  | .eraseCurve => 0x02
  | .readCurve => 0x03
  | .setJobLabel => 0x08
  | .configureTower => 0x09
  | .setTargets => 0x0A
  | .loadZoneMap => 0x0B
  | .setOffsets => 0x0C
  | .clearJob => 0x0D
  | .readSettings => 0x0E
  | .stripOpen => 0x10
  | .stripSegment => 0x11
  | .stripClose => 0x12
  | .setMotionLimits => 0x18
  | .clearKeyFault => 0x19
  | .armTrim => 0x20
  | .clearTrim => 0x21
  | .loadTrimBands => 0x22
  | .pressPhase => 0x28
  | .changeover => 0x29
  | .cancelChangeover => 0x2A
  | .setNoticeControl => 0x30
  | .clearPending => 0x31
  | .readZone => 0x38
  | .readTower => 0x39
  | .readStatus => 0x3A
  | .bridgeReset => 0x3F

/-- Every request kind (section 9.10). -/
def RequestKind.all : List RequestKind :=
  [.loadCurve, .eraseCurve, .readCurve, .setJobLabel, .configureTower, .setTargets, .loadZoneMap, .setOffsets, .clearJob,
   .readSettings, .stripOpen, .stripSegment, .stripClose, .setMotionLimits, .clearKeyFault, .armTrim, .clearTrim,
   .loadTrimBands, .pressPhase, .changeover, .cancelChangeover, .setNoticeControl, .clearPending, .readZone, .readTower,
   .readStatus, .bridgeReset]

/-- Whether a kind code is that of a request kind: codes 0x01 to 0x3F that are not listed, and every code from 0x40 upward,
are not (section 9.10). -/
def isRequestKind (k : Byte) : Bool := RequestKind.all.any fun r => r.code == k

/-- Key Command (section 9.10). -/
def kindKeyCommand : Byte := 0x40
/-- Sweep Command (section 9.10). -/
def kindSweepCommand : Byte := 0x41
/-- Key Report (section 9.10). -/
def kindKeyReport : Byte := 0x48
/-- Density (section 9.10). -/
def kindDensity : Byte := 0x50
/-- Response (section 9.10). -/
def kindResponse : Byte := 0x60
/-- Notice (section 9.10). -/
def kindNotice : Byte := 0x61

end Sys2Proof.Machine
end

