-- ==== Sys2Proof/Machine/Operands.lean ====
section
/-! DEFINITION. Operand forms: the fields of a request payload and the fields of a response (section 9.10, R160). -/

namespace Sys2Proof.Machine

/-- The one-byte field at byte `i` of a payload. -/
def u8 (p : List Byte) (i : Nat) : Nat := (p.getD i 0).toNat

/-- The 2-byte field at bytes `i` and `i + 1`, high byte first. -/
def u16 (p : List Byte) (i : Nat) : Nat := u8 p i * 256 + u8 p (i + 1)

/-- A list of `n` 2-byte values from byte `i` on. -/
def u16s (p : List Byte) (i n : Nat) : List Nat := (List.range n).map fun k => u16 p (i + 2 * k)

/-- A list of `n` signed 2-byte values from byte `i` on. -/
def s16s (p : List Byte) (i n : Nat) : List Int := (u16s p i n).map signed16

/-- The vertices of a Load Curve: `n` pairs of x and y, 2 bytes each, from byte `i` on (R160). -/
def vertexList (p : List Byte) (i n : Nat) : List (Nat × Nat) :=
  (List.range n).map fun k => (u16 p (i + 4 * k), u16 p (i + 4 * k + 2))

/-- A tower number 0 to 11. -/
def towerOf (n : Nat) : Option TowerIdx := if h : n < 12 then some ⟨n, h⟩ else none

/-- A zone number 0 to 47. -/
def zoneOf (n : Nat) : Option ZoneIdx := if h : n < 48 then some ⟨n, h⟩ else none

/-- A job slot number 0 or 1. -/
def slotOf (n : Nat) : Option SlotIdx := if h : n < 2 then some ⟨n, h⟩ else none

/-- A curve slot number 0 to 31. -/
def curveOf (n : Nat) : Option CurveIdx := if h : n < 32 then some ⟨n, h⟩ else none

/-- A field that is one flag: 0 or 1 (R160). -/
def isFlag (n : Nat) : Bool := n < 2

/-- An optional curve slot field: 0xFF for absent, or 0 to 31 (R160, R22). -/
def isCurveField (n : Nat) : Bool := n == 255 || n < 32

/-- A phase set field: bits 7 to 4 zero (R160). -/
def isPhaseField (n : Nat) : Bool := n < 16

/-- Whether every character of a label is a byte 0x20 to 0x7E (R2, R28). -/
def labelOk (l : List Byte) : Bool := l.all fun b => 0x20 ≤ b.toNat && b.toNat ≤ 0x7E

/-- A label of length zero is taken as an absent label (R2, R28). -/
def labelOf (l : List Byte) : Option (List Byte) := if l.isEmpty then none else some l

/-- A label as it is reported: its length, 0 when absent, then its bytes (R160). -/
def labelBytes : Option (List Byte) → List Byte
  | none => byte1 0
  | some l => byte1 l.length ++ l

/-- An optional number in a one-byte field, 0xFF for absent (section 9.10). -/
def opt1 : Option Nat → List Byte
  | none => byte1 0xFF
  | some n => byte1 n

/-- An optional number in a 2-byte field, 0xFFFF for absent (section 9.10). -/
def opt2 : Option Nat → List Byte
  | none => byte2 0xFFFF
  | some n => byte2 n

/-- Two 12-bit values in three bytes (Zone Report entry, section 9.10). -/
def pack12 (a b : Nat) : List Byte :=
  [BitVec.ofNat 8 (a / 16), BitVec.ofNat 8 (a % 16 * 16 + b / 256), BitVec.ofNat 8 b]

/-- A signed value as 12-bit two's complement (section 9.10). -/
def twos12 (i : Int) : Nat := (i % 4096).toNat

/-- The first detail of a Notice, two bytes (section 9.10). -/
def Detail.bytes : Detail → List Byte
  | .absent => byte1 0xFF ++ byte1 0xFF
  | .zone t z => byte1 t.val ++ byte1 z.val
  | .tower t => byte1 t.val ++ byte1 0xFF
  | .queue p q => byte1 p.num ++ byte1 q.num
  | .port p => byte1 p.num ++ byte1 0xFF

end Sys2Proof.Machine
end

