-- ==== Sys2Proof/Machine/Flags.lean ====
section
/-! DEFINITION. The indications the rules compute from the state: slot states, In Use, readiness, the running job,
deadband, eligibility, Restricted Motion, the Changeover Hold and sendable kinds. -/

namespace Sys2Proof.Machine

/-- The job a slot holds; an EMPTY slot reads as default records (R14). -/
def JobSlot.job : JobSlot → Job
  | .empty => .default
  | .held _ j => j

/-- Whether a slot is in the state named by a role (R15). -/
def JobSlot.inRole (r : Role) : JobSlot → Bool
  | .empty => false
  | .held r' _ => r' == r

/-- The record of tower `t` in job slot `j`, as read by a request or report (R14). -/
def State.record (s : State) (j : SlotIdx) (t : TowerIdx) : TowerSettings := look (look s.jobs j).job.towers t

/-- The job slot that is RUNNING, if there is one. -/
def State.runningSlot (s : State) : Option SlotIdx :=
  if (look s.jobs 0).inRole .running then some 0
  else if (look s.jobs 1).inRole .running then some 1
  else none

/-- The running job. Where no slot is RUNNING, no tower is enabled in it (00_scope.md, Conventions). -/
def State.running (s : State) : Job :=
  match s.runningSlot with
  | some j => (look s.jobs j).job
  | none => .default

/-- Tower `t`'s settings in the running job. -/
def State.tower (s : State) (t : TowerIdx) : TowerSettings := look s.running.towers t

/-- The motion fields of a zone. -/
def State.zone (s : State) (t : TowerIdx) (z : ZoneIdx) : MotionZone := zlook s.motion.zones t z

/-- E, B and K of a zone. -/
def State.targetOf (s : State) (t : TowerIdx) (z : ZoneIdx) : Option Target := zlook s.engine.targets t z

/-- The trim fields of a zone. -/
def State.trimOf (s : State) (t : TowerIdx) (z : ZoneIdx) : TrimZone := zlook s.trim.zones t z

/-- The Tower Pass record of a tower. -/
def State.pass (s : State) (t : TowerIdx) : TowerPass := look s.engine.passes t

/-- Whether a record names curve slot `c`, as its key curve or as its sweep curve (R5). -/
def TowerSettings.names (r : TowerSettings) (c : CurveIdx) : Bool := r.keyCurve == some c || r.sweepCurve == some c

/-- Whether any of a job's twelve records names curve slot `c`; the enabled field does not matter (R5). -/
def Job.names (j : Job) (c : CurveIdx) : Bool := allTowers.any fun t => (look j.towers t).names c

/-- Whether a job slot in the given state names curve slot `c` (R5, R8). -/
def State.namedBy (s : State) (r : Role) (c : CurveIdx) : Bool :=
  ((look s.jobs 0).inRole r && (look s.jobs 0).job.names c) ||
  ((look s.jobs 1).inRole r && (look s.jobs 1).job.names c)

/-- Whether a curve slot is In Use (R5). -/
def State.inUse (s : State) (c : CurveIdx) : Bool := s.namedBy .running c || s.namedBy .armed c

/-- Whether a curve slot is LOADED with the given kind. -/
def isLoaded (lib : Library) (k : CurveKind) (c : CurveIdx) : Bool :=
  match look lib c with
  | some cv => cv.kind == k
  | none => false

/-- The six conditions of R20 on a tower's record and the Curve Library. -/
def towerReady (lib : Library) (r : TowerSettings) : Bool :=
  r.enabled && r.zoneMap.isSome
    && (match r.keyCurve with
        | some c => isLoaded lib .key c
        | none => false)
    && r.coverage.isSome && r.strip != .opened
    && (match r.sweepCurve with
        | some c => isLoaded lib .sweep c
        | none => true)

/-- READY when at least one tower is enabled and every enabled tower is ready (R21). -/
def Job.isReady (j : Job) : Bool :=
  (allTowers.any fun t => (look j.towers t).enabled) &&
  (allTowers.all fun t => !(look j.towers t).enabled || look j.ready t)

/-- LOADING or READY, by the job's indications (R21). -/
def Job.preparedRole (j : Job) : Role := if j.isReady then .ready else .loading

/-- The number of Strip Assembly Buffers bound. -/
def State.buffersBound (s : State) : Nat := (s.buffers.toList.filter Option.isSome).length

/-- Whether a buffer assembles the strip of (slot, tower). -/
def Buffer.boundTo (b : Buffer) (j : SlotIdx) (t : TowerIdx) : Bool := b.slot == j && b.tower == t

/-- The place of the buffer bound to (slot, tower), if there is one (R34). -/
def State.bufferOf (s : State) (j : SlotIdx) (t : TowerIdx) : Option (Fin 4 × Buffer) :=
  (List.finRange 4).findSome? fun i =>
    match look s.buffers i with
    | some b => if b.boundTo j t then some (i, b) else none
    | none => none

/-- A free buffer, if there is one. Which free buffer is taken has no effect on the strip (section 3.1); the lowest-numbered
one is (log entry 13). -/
def State.freeBuffer (s : State) : Option (Fin 4) :=
  (List.finRange 4).find? fun i => (look s.buffers i).isNone

/-- Whether the key is within the deadband of `k`: its position is known and |k − actual| is no greater than the deadband
of its tower in the running job (R74). -/
def State.withinDeadband (s : State) (t : TowerIdx) (z : ZoneIdx) (k : Nat) : Bool :=
  match (s.zone t z).actual with
  | some a => distance k a ≤ (s.tower t).deadband
  | none => false

/-- Whether the Press Phase is in tower `t`'s move phase set in the running job. -/
def State.mayMove (s : State) (t : TowerIdx) : Bool := (s.tower t).movePhases.has s.cycle.phase

/-- Whether a motion state holds an in-flight place (R73). -/
def MotionState.inFlight : MotionState → Bool
  | .moving => true
  | .retry => true
  | _ => false

/-- Whether a zone is in motion or waiting: PENDING, MOVING or RETRY (R96). -/
def MotionState.unsettled : MotionState → Bool
  | .pending => true
  | .moving => true
  | .retry => true
  | _ => false

/-- Whether none of a tower's 48 zones is in PENDING, MOVING or RETRY (R96). -/
def State.atRest (s : State) (t : TowerIdx) : Bool := allZones.all fun z => !(s.zone t z).state.unsettled

/-- The Effective Concurrency of a tower (R78). -/
def State.effective (s : State) (t : TowerIdx) : Nat :=
  if s.motion.restricted then 1 else look s.motion.concurrency t

/-- The sum of M_t over the towers enabled in the running job (R82). -/
def State.enabledConcurrency (s : State) : Nat :=
  (allTowers.map fun t => if (s.tower t).enabled then look s.motion.concurrency t else 0).sum

/-- The distance of a waiting zone from its Key Target, 4096 for an UNKNOWN position (R79). -/
def State.toGo (s : State) (t : TowerIdx) (z : ZoneIdx) (k : Nat) : Nat :=
  match (s.zone t z).actual with
  | some a => distance k a
  | none => Config.unknownDistance

/-- The PENDING zones of a tower with their Key Targets, lowest zone first. A PENDING zone always has one (R79). -/
def State.waiting (s : State) (t : TowerIdx) : List (ZoneIdx × Nat) :=
  allZones.filterMap fun z =>
    if (s.zone t z).state = .pending then (s.targetOf t z).map fun g => (z, g.k) else none

/-- The candidate of a list of waiting zones: the greatest distance, the earliest of equals (R79). -/
def farthest (s : State) (t : TowerIdx) : List (ZoneIdx × Nat) → Option (ZoneIdx × Nat)
  | [] => none
  | c :: rest =>
    match farthest s t rest with
    | none => some c
    | some d => if s.toGo t c.1 c.2 < s.toGo t d.1 d.2 then some d else some c

/-- The candidate of a tower: its PENDING zone with the greatest distance, the lowest-numbered of equals (R79). -/
def State.candidate (s : State) (t : TowerIdx) : Option (ZoneIdx × Nat) := farthest s t (s.waiting t)

/-- Whether a tower is eligible for a start (R79). -/
def State.eligible (s : State) (t : TowerIdx) : Bool :=
  !(s.waiting t).isEmpty && s.mayMove t && (look s.motion.inFlight t < s.effective t)

/-- The towers in the order a Dispatch Scan considers them: ascending from the round-robin pointer, tower 0 following
tower 11 (R80). -/
def scanOrder (pointer : TowerIdx) : List TowerIdx := allTowers.map fun i => pointer + i

/-- Whether a zone that was not PENDING in `before` is PENDING in `after`. -/
def newlyPending (before after : State) : Bool :=
  allPairs.any fun p => (after.zone p.1 p.2).state = .pending && (before.zone p.1 p.2).state ≠ .pending

/-- Whether an entry of the Drive Command Queue is a MOVE of the zone. -/
def DriveEntry.isMoveOf (t : TowerIdx) (z : ZoneIdx) : DriveEntry → Bool
  | .move t' z' _ _ => t' == t && z' == z
  | .sweep _ _ => false

/-- Whether an entry of the Drive Command Queue is a SWEEP of the tower. -/
def DriveEntry.isSweepOf (t : TowerIdx) : DriveEntry → Bool
  | .move _ _ _ _ => false
  | .sweep t' _ => t' == t

/-- Whether a MOVE of the zone stands in the Drive Command Queue unsent. -/
def State.moveQueued (s : State) (t : TowerIdx) (z : ZoneIdx) : Bool := s.motion.queue.any (DriveEntry.isMoveOf t z)

/-- Whether the Changeover Hold holds: the Hold Tower Set is not empty (R129). -/
def State.held (s : State) : Bool := allTowers.any fun t => look s.cycle.hold t

/-- Whether a kind is pending and sendable (R136). -/
def State.sendable (s : State) (k : Fin 8) : Bool :=
  (look s.notice.records k).isSome && look s.notice.enabled k && !s.notice.off && !s.held

/-- The kind the notice turn chooses: the best priority among the sendable kinds, the lowest kind number of equals
(R137). -/
def bestKind (s : State) : List (Fin 8) → Option (Fin 8)
  | [] => none
  | k :: rest =>
    match bestKind s rest with
    | none => if s.sendable k then some k else none
    | some b => if s.sendable k && look s.notice.priorities k ≤ look s.notice.priorities b then some k else some b

/-- The sets of kinds that have a pending record, as the reports carry it (R139, R157). -/
def State.pendingKinds (s : State) : Nat := setNum (tab fun k => (look s.notice.records k).isSome)

end Sys2Proof.Machine
end

