-- ==== Sys2Proof/Machine/Ops.lean ====
section
/-! DEFINITION. The operations shared by several commands: notices, queues and responses, Settle Watches, dispatch, Key
Targets, Zone Updates, passes, readiness, strip buffers and the Changeover Hold. -/

namespace Sys2Proof.Machine

/-! ### Table entries -/

/-- Replace the motion fields of a zone. -/
def State.putZone (s : State) (t : TowerIdx) (z : ZoneIdx) (x : MotionZone) : State :=
  s.setMotion { s.motion with zones := zput s.motion.zones t z x }

/-- Replace E, B and K of a zone. -/
def State.putTarget (s : State) (t : TowerIdx) (z : ZoneIdx) (x : Option Target) : State :=
  s.setEngine { s.engine with targets := zput s.engine.targets t z x }

/-- Replace the trim fields of a zone. -/
def State.putTrim (s : State) (t : TowerIdx) (z : ZoneIdx) (x : TrimZone) : State :=
  s.setTrim { s.trim with zones := zput s.trim.zones t z x }

/-- Replace a tower's Tower Pass record. -/
def State.putPass (s : State) (t : TowerIdx) (x : TowerPass) : State :=
  s.setEngine { s.engine with passes := put s.engine.passes t x }

/-- Replace a Job Slot. -/
def State.putJob (s : State) (j : SlotIdx) (x : JobSlot) : State := s.setJobs (put s.jobs j x)

/-! ### Notices (chapter 8) -/

/-- The tower set of an occurrence that carries one tower or none. -/
def towerSetOf (t : Option TowerIdx) : Vector Bool 12 := tab fun i => some i == t

/-- The record after an occurrence is taken: created, or merged into the pending one (R135). -/
def mergeNotice (old : Option NoticeRecord) (t : Option TowerIdx) (d : Detail) (sheet : Nat) : NoticeRecord :=
  match old with
  | none => ⟨towerSetOf t, 1, d, sheet⟩
  | some r =>
    { r with towers := tab fun i => look r.towers i || some i == t, count := incHeld Config.occurrenceMax r.count }

/-- An occurrence of a notice kind is raised (R134, R135). -/
def raise (k : NoticeKind) (t : Option TowerIdx) (d : Detail) (s : State) : State :=
  s.setNotice { s.notice with
    records := put s.notice.records k.num
      (some (mergeNotice (look s.notice.records k.num) t d s.cycle.sheetCount)) }

/-! ### Frame queues, requests and responses (chapter 9) -/

/-- Whether a frame's destination was the bridge broadcast address. -/
def Frame.isBroadcast (f : Frame) : Bool := f.dst == Config.broadcast

/-- The response to a request (R154): to the request's source, from the own address; kind, result code, fields. -/
def responseFrame (s : State) (f : Frame) (code : ResultCode) (fields : List Byte) : Frame :=
  ⟨f.src, s.link.ownAddress, kindResponse, [f.kind] ++ byte1 code.num ++ fields⟩

/-- Answer a request: its response is placed at the tail of the Response Queue (R152, R154). A broadcast request is not
answered (R153). -/
def answer (f : Frame) (code : ResultCode) (fields : List Byte) (s : State) : State :=
  if f.isBroadcast then s
  else s.setLink { s.link with responses := s.link.responses ++ [responseFrame s f code fields] }

/-- What carrying out a request gives: the state it leaves, its result code and the fields of its response. -/
structure Reply where
  state : State
  code : ResultCode
  fields : List Byte

/-- A refusal that carries the kind and the code alone (R154). -/
def Reply.bare (code : ResultCode) (s : State) : Reply := ⟨s, code, []⟩

/-- A payload of the wrong length is refused RANGE and has no effect (R153). -/
def Reply.badLength (s : State) : Reply := .bare .range s

/-- The request at the head of the U Receive Queue, with the state after it has left the queue, where it may be taken: the
Response Queue holds fewer than 4 frames (R152). -/
def headRequest (s : State) : Option (Frame × State) :=
  match s.link.uReceive with
  | [] => none
  | f :: rest =>
    if s.link.responses.length < Config.responseCap then some (f, s.setLink { s.link with uReceive := rest }) else none

/-- The taking of a request of kind `k` that may change state (R152, R153). Where the head of the U Receive Queue is no
such request, or taking is paused, the step does not occur (log entry 1). -/
def takeRequest (k : RequestKind) (handler : List Byte → State → Reply) (s : State) : State :=
  match headRequest s with
  | none => s
  | some (f, s1) =>
    if f.kind = k.code then
      answer f (handler f.payload s1).code (handler f.payload s1).fields (handler f.payload s1).state
    else s

/-- The taking of a read request of kind `k`: it changes no state, and a broadcast one is ignored (R153). -/
def takeRead (k : RequestKind) (handler : List Byte → State → ResultCode × List Byte) (s : State) : State :=
  match headRequest s with
  | none => s
  | some (f, s1) =>
    if f.kind = k.code then answer f (handler f.payload s1).1 (handler f.payload s1).2 s1 else s

/-! ### Settle Watch and motion states (R96) -/

/-- The Settle Watch test of a tower: set, and no zone in motion or waiting, clears it and raises SETTLED (R96). -/
def settleTest (t : TowerIdx) (s : State) : State :=
  if look s.motion.watch t && s.atRest t then
    raise .settled (some t) (.tower t) (s.setMotion { s.motion with watch := put s.motion.watch t false })
  else s

/-- Give a zone a motion state; a change is followed by its tower's Settle Watch test (R96). -/
def setMotionState (t : TowerIdx) (z : ZoneIdx) (m : MotionState) (s : State) : State :=
  if (s.zone t z).state = m then s
  else settleTest t (s.putZone t z { s.zone t z with state := m })

/-- Clear Settle Watches without raising SETTLED (R96). -/
def clearWatches (p : TowerIdx → Bool) (s : State) : State :=
  s.setMotion { s.motion with watch := tab fun t => look s.motion.watch t && !p t }

/-! ### Averaging (R101) -/

/-- An Averaging Reset of a zone's trim fields: sum and count become 0, the last average stays (R101). -/
def TrimZone.resetAveraging (x : TrimZone) : TrimZone := { x with sum := 0, count := 0 }

/-- An Averaging Reset of one zone (R101). -/
def averagingReset (t : TowerIdx) (z : ZoneIdx) (s : State) : State := s.putTrim t z (s.trimOf t z).resetAveraging

/-! ### Dispatch (section 5.3) -/

/-- Append an entry at the tail of the Drive Command Queue (R76). -/
def appendDrive (e : DriveEntry) (s : State) : State := s.setMotion { s.motion with queue := s.motion.queue ++ [e] }

/-- Start zone `z` of tower `t`, whose Key Target is `k` (R81): tag, commanded target, MOVING, counts, MOVE, averaging. Its
tower's Settle Watch cannot be satisfied while it is MOVING, so no test is made. -/
def startMove (t : TowerIdx) (z : ZoneIdx) (k : Nat) (s : State) : State :=
  averagingReset t z <| s.setMotion { s.motion with
    zones := zput s.motion.zones t z
      { s.zone t z with state := .moving, commanded := some k, tag := (s.zone t z).tag + 1 }
    inFlight := put s.motion.inFlight t (look s.motion.inFlight t + 1)
    pressInFlight := s.motion.pressInFlight + 1
    queue := s.motion.queue ++ [.move t z k ((s.zone t z).tag + 1)] }

/-- One step of a Dispatch Scan: the first eligible tower from the pointer is served and the pointer moves past it; `none`
where no tower is eligible (R80). -/
def scanStep (s : State) : Option State :=
  match (scanOrder s.motion.pointer).find? s.eligible with
  | none => none
  | some t =>
    match s.candidate t with
    | none => none
    | some c =>
      let s1 := startMove t c.1 c.2 s
      some (s1.setMotion { s1.motion with pointer := t + 1 })

/-- At most `n` steps of a Dispatch Scan. -/
def scanLoop : Nat → State → State
  | 0, s => s
  | n + 1, s =>
    match scanStep s with
    | none => s
    | some s' => scanLoop n s'

/-- A Dispatch Scan (R80): steps are repeated as long as the press-wide in-flight count is below the Motion Cap and a tower
is eligible. Each step adds one to the count, so at most `cap − count` steps are made. -/
def dispatchScan (s : State) : State := scanLoop (s.motion.cap - s.motion.pressInFlight) s

/-- The Dispatch Scan of an event in which a zone may have become PENDING (R80). -/
def scanIfPending (before after : State) : State :=
  if newlyPending before after then dispatchScan after else after

/-- A zone gives up its in-flight place (R78). -/
def releasePlace (t : TowerIdx) (s : State) : State :=
  s.setMotion { s.motion with
    inFlight := put s.motion.inFlight t (look s.motion.inFlight t - 1)
    pressInFlight := s.motion.pressInFlight - 1 }

/-! ### Restricted Motion (R82) -/

/-- A re-evaluation of Restricted Motion: MOTION_RESTRICTED is raised on entry, nothing on leaving (R82). -/
def evalRestricted (s : State) : State :=
  let now := decide (s.motion.cap < s.enabledConcurrency)
  let s1 := s.setMotion { s.motion with restricted := now }
  if now && !s.motion.restricted then raise .motionRestricted none .absent s1 else s1

/-! ### Key Targets handed on (R74, R75, R84, R85) -/

/-- The entry with its target replaced in place where it is a MOVE of the zone (R84). -/
def DriveEntry.retarget (t : TowerIdx) (z : ZoneIdx) (k : Nat) : DriveEntry → DriveEntry
  | .move t' z' g tag => if t' == t && z' == z then .move t' z' k tag else .move t' z' g tag
  | .sweep t' v => .sweep t' v

/-- A Key Retarget of a zone in MOVING or RETRY to `k`: in place while its MOVE is queued (R84), a new MOVE with a new tag
once it has been sent (R85). -/
def keyRetarget (t : TowerIdx) (z : ZoneIdx) (k : Nat) (s : State) : State :=
  if s.moveQueued t z then
    s.setMotion { s.motion with
      zones := zput s.motion.zones t z { s.zone t z with commanded := some k, timer := none }
      queue := s.motion.queue.map (DriveEntry.retarget t z k) }
  else
    s.setMotion { s.motion with
      zones := zput s.motion.zones t z
        { s.zone t z with commanded := some k, timer := none, tag := (s.zone t z).tag + 1 }
      queue := s.motion.queue ++ [.move t z k ((s.zone t z).tag + 1)] }

/-- The Motion Scheduler is handed a zone's Key Target `k` (table of R74). The Dispatch Scan is the caller's (R80). -/
def handTarget (t : TowerIdx) (z : ZoneIdx) (k : Nat) (s : State) : State :=
  match (s.zone t z).state with
  | .noTarget => setMotionState t z (if s.withinDeadband t z k then .atTarget else .pending) s
  | .atTarget => setMotionState t z (if s.withinDeadband t z k then .atTarget else .pending) s
  | .pending => setMotionState t z (if s.withinDeadband t z k then .atTarget else .pending) s
  | .moving => if (s.zone t z).commanded = some k then s else if s.mayMove t then keyRetarget t z k s else s
  | .retry => if (s.zone t z).commanded = some k then s else if s.mayMove t then keyRetarget t z k s else s
  | .faulted => s

/-- The motion state of a zone told it has no Key Target (table of R75). -/
def MotionState.withoutTarget : MotionState → MotionState
  | .noTarget => .noTarget
  | .atTarget => .noTarget
  | .pending => .noTarget
  | .moving => .moving
  | .retry => .retry
  | .faulted => .faulted

/-- Every zone of the press for which `p` holds loses E, B and K (R52). -/
def dropTargets (p : TowerIdx → ZoneIdx → Bool) (s : State) : State :=
  s.setEngine { s.engine with targets := ztab fun t z => if p t z then none else s.targetOf t z }

/-- The Motion Scheduler is told that a zone has no Key Target (table of R75). -/
def withdrawTarget (t : TowerIdx) (z : ZoneIdx) (s : State) : State :=
  setMotionState t z (s.zone t z).state.withoutTarget s

/-- The Motion Scheduler is told that zones of a tower have no Key Target, in the order given (R75). -/
def withdrawTargets (t : TowerIdx) (zs : List ZoneIdx) (s : State) : State :=
  zs.foldl (fun s z => withdrawTarget t z s) s

/-! ### Key Targets of one zone (R59, R67) -/

/-- K = B + trim + offset, clamped to 0 and the key maximum (R59). -/
def keyTarget (b : Nat) (trim offset : Int) (keyMax : Nat) : Nat := (clampInt 0 keyMax (b + trim + offset)).toNat

/-- The offset of a zone in a record: absent offsets are not read by any rule; they stand at 0. -/
def TowerSettings.offsetOf (r : TowerSettings) (z : ZoneIdx) : Int := r.offsets.getD z.val 0

/-- Write K of a zone whose E and B stand, and hand it to the Motion Scheduler (R52). -/
def rewriteTarget (t : TowerIdx) (z : ZoneIdx) (g : Target) (k : Nat) (s : State) : State :=
  handTarget t z k (s.putTarget t z (some { g with k := k }))

/-- Whether a pass leaves zone `z` to a Zone Update: NONE, or ACTIVE with a cursor greater than `z` (R67). -/
def TowerPass.hasPassed (p : TowerPass) (z : ZoneIdx) : Bool :=
  match p.state with
  | .none => true
  | .active => z.val < p.cursor

/-- A Zone Update requested for a zone (R67): made at once when B is defined and the pass has passed the zone, and else
nothing is done. -/
def zoneUpdate (t : TowerIdx) (z : ZoneIdx) (s : State) : State :=
  match s.targetOf t z with
  | none => s
  | some g =>
    if (s.pass t).hasPassed z then
      rewriteTarget t z g
        (keyTarget g.b (s.trimOf t z).trim ((s.tower t).offsetOf z) (s.tower t).keyMax) s
    else s

/-- Zone Updates of a run of zones of a tower, in the order given. -/
def zoneUpdates (t : TowerIdx) (zs : List ZoneIdx) (s : State) : State := zs.foldl (fun s z => zoneUpdate t z s) s

/-- Clamp a zone's Key Target to a key maximum; a clamped K is handed on (R23, R66). -/
def clampTarget (t : TowerIdx) (keyMax : Nat) (z : ZoneIdx) (s : State) : State :=
  match s.targetOf t z with
  | none => s
  | some g => if keyMax < g.k then rewriteTarget t z g keyMax s else s

/-- Clamp every Key Target of a tower to a key maximum. DESIGN CHOICE: zones ascending, an order that R23, R52 and R66 leave
open (log entry 20). -/
def clampTargets (t : TowerIdx) (keyMax : Nat) (s : State) : State :=
  allZones.foldl (fun s z => clampTarget t keyMax z s) s

/-! ### Tower Passes (section 4.2) -/

/-- The pass mean: the mean of the coverage values over Z zones, half up (R60). -/
def passMean (coverage : List Nat) (zones : Nat) : Nat := halfUp coverage.sum zones

/-- The pass mean of a record; a ready tower has both a coverage array and a zone map (R55). -/
def TowerSettings.mean? (r : TowerSettings) : Option Nat :=
  match r.coverage, r.zoneMap with
  | some c, some m => some (passMean c m.zones)
  | _, _ => none

/-- A pass begins for tower `t` (R55). -/
def beginPass (t : TowerIdx) (s : State) : State :=
  s.putPass t { s.pass t with state := .active, cursor := 0, rerun := false, mean := (s.tower t).mean? }

/-- A Pass Cause for tower `t` of the running job (table of R54). -/
def passCause (t : TowerIdx) (s : State) : State :=
  match (s.pass t).state with
  | .active => s.putPass t { s.pass t with rerun := true }
  | .none => if look s.running.ready t then beginPass t s else s

/-- The abandonment of an ACTIVE pass: state NONE, rerun flag clear, the cursor kept (R65). -/
def TowerPass.abandon (p : TowerPass) : TowerPass := { p with state := .none, rerun := false }

/-! ### Changeover Hold (R129, R130) -/

/-- Remove a tower from the Hold Tower Set; the removal that empties it raises CHANGEOVER_DONE (R129, R130). -/
def leaveHold (t : TowerIdx) (s : State) : State :=
  if look s.cycle.hold t then
    let s1 := s.setCycle { s.cycle with hold := put s.cycle.hold t false }
    if s1.held then s1 else raise .changeoverDone none .absent s1
  else s

/-! ### Job Store (sections 2.2 and 2.4) -/

/-- Store a job in a slot: an EMPTY slot becomes LOADING (R16), another keeps its state. -/
def storeJob (j : SlotIdx) (job : Job) (s : State) : State :=
  s.putJob j (match look s.jobs j with
    | .empty => .held .loading job
    | .held r _ => .held r job)

/-- Write a tower's record in a slot; an EMPTY slot first takes twelve default records (R16, R19). -/
def writeRecord (j : SlotIdx) (t : TowerIdx) (r : TowerSettings) (s : State) : State :=
  let job := (look s.jobs j).job
  storeJob j { job with towers := put job.towers t r } s

/-- The state of a slot after a Readiness Evaluation: LOADING and READY follow the indications, the others stay (R21). -/
def Role.afterEvaluation (r : Role) (job : Job) : Role :=
  match r with
  | .loading => job.preparedRole
  | .ready => job.preparedRole
  | .armed => .armed
  | .running => .running

/-- A Readiness Evaluation of a slot (R21). -/
def readinessEvaluation (j : SlotIdx) (s : State) : State :=
  match look s.jobs j with
  | .empty => s
  | .held r job =>
    let job' := { job with ready := tab fun t => towerReady s.library (look job.towers t) }
    s.putJob j (.held (r.afterEvaluation job') job')

/-- Free every Strip Assembly Buffer for which `p` holds (R35). -/
def freeBuffers (p : Buffer → Bool) (s : State) : State :=
  s.setBuffers (tab fun i =>
    match look s.buffers i with
    | some b => if p b then none else some b
    | none => none)

/-- The states of Job Slots 0 and 1, as a response carries them. -/
def State.slotStates (s : State) : List Byte := byte1 (look s.jobs 0).num ++ byte1 (look s.jobs 1).num

/-- A ready indication as a response carries it; for a tower outside 0 to 11 it is 0 (R160), and for a job slot outside 0
and 1 too (log entry 8). -/
def State.readyNum (s : State) (slot tower : Nat) : Nat :=
  match slotOf slot, towerOf tower with
  | some j, some t => flagNum (look (look s.jobs j).job.ready t)
  | _, _ => 0

/-- The fields of R18 in the response to a load request that names a tower: job slot, both slot states, tower, ready
indication; slot and tower as received (R160). -/
def loadFields (p : List Byte) (s : State) : List Byte :=
  byte1 (u8 p 0) ++ s.slotStates ++ byte1 (u8 p 1) ++ byte1 (s.readyNum (u8 p 0) (u8 p 1))

/-- What a load request's own state checks decide: a refusal, or acceptance with the state it leaves and the further
fields of its response. -/
inductive Verdict where
  | refuse (code : ResultCode)
  | accept (s : State) (extra : List Byte)

/-- The three steps of R17 for a load request that names a tower: fields, armed slot, the request's own checks. `refusal` are
the further fields of a refusal (R40). -/
def loadRequest (p : List Byte) (fieldsOk : Bool) (refusal : List Byte) (body : SlotIdx → TowerIdx → Verdict)
    (s : State) : Reply :=
  let refuse (c : ResultCode) : Reply := ⟨s, c, loadFields p s ++ refusal⟩
  match slotOf (u8 p 0), towerOf (u8 p 1) with
  | some j, some t =>
    if fieldsOk then
      if (look s.jobs j).inRole .armed then refuse .busy
      else
        match body j t with
        | .refuse c => refuse c
        | .accept s' extra => ⟨s', .ok, loadFields p s' ++ extra⟩
    else refuse .range
  | _, _ => refuse .range

/-- Whether a slot is RUNNING. -/
def State.isRunning (s : State) (j : SlotIdx) : Bool := (look s.jobs j).inRole .running

end Sys2Proof.Machine
end

