-- ==== Sys2Proof/Machine/Jobs.lean ====
section
/-! DEFINITION. Chapter 2, Jobs and Tower Settings: Set Job Label, Configure Tower, Set Targets, Load Zone Map, Clear Job,
Read Settings. -/

namespace Sys2Proof.Machine

/-! ### Set Job Label -/

/-- The fields of R18 for a request that names no tower, and of R29: job slot and both slot states. -/
def jobFields (p : List Byte) (s : State) : List Byte := byte1 (u8 p 0) ++ s.slotStates

/-- Set Job Label (R28), checked in the steps of R17. A label length above 16 is refused on the count (log entry 7). -/
def setJobLabel (p : List Byte) (s : State) : Reply :=
  let m := u8 p 1
  let refuse (c : ResultCode) : Reply := ⟨s, c, jobFields p s⟩
  if p.length < 2 then .badLength s
  else if 16 < m then refuse .range
  else if p.length ≠ 2 + m then .badLength s
  else
    match slotOf (u8 p 0) with
    | none => refuse .range
    | some j =>
      if labelOk (p.drop 2) then
        if (look s.jobs j).inRole .armed then refuse .busy
        else
          let s' := readinessEvaluation j
            (storeJob j { (look s.jobs j).job with label := labelOf (p.drop 2) } s)
          ⟨s', .ok, jobFields p s'⟩
      else refuse .range

/-- SET_JOB_LABEL (R28). -/
def execSetJobLabel (s : State) : Host.Outcome State Fault Refusal := .next (takeRequest .setJobLabel setJobLabel s)

/-! ### Configure Tower -/

/-- The field check of Configure Tower (R22, R160). -/
def configOk (p : List Byte) : Bool :=
  isFlag (u8 p 2) && isCurveField (u8 p 3) && isCurveField (u8 p 4) && u8 p 5 ≤ 64
    && (512 ≤ u16 p 6 && u16 p 6 ≤ 2048) && (1 ≤ u16 p 8 && u16 p 8 ≤ 4095) && u8 p 10 ≤ 15
    && isPhaseField (u8 p 11) && isPhaseField (u8 p 12)

/-- The record with its nine configuration fields replaced by the carried values (R22). -/
def TowerSettings.configure (r : TowerSettings) (p : List Byte) : TowerSettings :=
  { r with
    enabled := u8 p 2 == 1
    keyCurve := curveOf (u8 p 3)
    sweepCurve := curveOf (u8 p 4)
    sideWeight := u8 p 5
    scale := u16 p 6
    keyMax := u16 p 8
    deadband := u8 p 10
    movePhases := .ofNum (u8 p 11)
    trimPhases := .ofNum (u8 p 12) }

/-- The trims of a tower become 0, its averaging is reset and Trim Saturated is cleared (R24). -/
def clearTowerTrim (t : TowerIdx) (s : State) : State :=
  s.setTrim { s.trim with
    zones := ztab fun t' z =>
      if t' = t then { (s.trimOf t' z).resetAveraging with trim := 0 } else s.trimOf t' z
    saturated := put s.trim.saturated t false }

/-- A Configure Tower disables a tower of the running job that was enabled (R24). The Settle Watch is cleared first, so that
no SETTLED is raised for the zones that leave PENDING (R96; log entry 10); the tower leaves the Hold Tower Set (R129). -/
def disableTower (t : TowerIdx) (s : State) : State :=
  let s1 := withdrawTargets t allZones (dropTargets (fun t' _ => t' == t) (clearWatches (fun t' => t' == t) s))
  let s2 := s1.putPass t { (s1.pass t).abandon with sweep := none }
  leaveHold t (clearTowerTrim t s2)

/-- Whether a Configure Tower changed the key curve or sweep curve reference (R64). -/
def curvesChanged (old new : TowerSettings) : Bool := old.keyCurve != new.keyCurve || old.sweepCurve != new.sweepCurve

/-- A Configure Tower as a Pass Cause for its enabled tower (R54, R64): a changed curve reference abandons an ACTIVE pass
first, and a Zone Update is then requested for each zone at or above the abandoned cursor (log entry 11). DESIGN CHOICE: zones
ascending, an order that R64 and R68 leave open (log entry 20). -/
def configurePass (t : TowerIdx) (old new : TowerSettings) (s : State) : State :=
  match (s.pass t).state with
  | .none => passCause t s
  | .active =>
    if curvesChanged old new then
      let c := (s.pass t).cursor
      zoneUpdates t (allZones.filter fun z => c ≤ z.val) (passCause t (s.putPass t (s.pass t).abandon))
    else passCause t s

/-- The hand-offs of a Configure Tower on the RUNNING slot, in the order of R23, with the Dispatch Scan of R80 last. The clamp of
step 1 hands on the clamped Key Targets zones ascending, which R23 and R52 leave open (DESIGN CHOICE, log entry 20). -/
def handOnConfigure (t : TowerIdx) (old new : TowerSettings) (s : State) : State :=
  let s1 := if new.keyMax < old.keyMax then clampTargets t new.keyMax s else s
  let s2 := if old.enabled && !new.enabled then disableTower t s1 else s1
  let s3 := if old.enabled != new.enabled then evalRestricted s2 else s2
  let s4 := if new.enabled then configurePass t old new s3 else s3
  dispatchScan s4

/-- Configure Tower (R22, R23). -/
def configureTower (p : List Byte) (s : State) : Reply :=
  if p.length ≠ 13 then .badLength s
  else
    loadRequest p (configOk p) [] (fun j t =>
      let old := s.record j t
      let new := old.configure p
      let s1 := readinessEvaluation j (writeRecord j t new s)
      .accept (if s.isRunning j then handOnConfigure t old new s1 else s1) []) s

/-- CONFIGURE_TOWER (R22). -/
def execConfigureTower (s : State) : Host.Outcome State Fault Refusal :=
  .next (takeRequest .configureTower configureTower s)

/-! ### Set Targets -/

/-- The field check of Set Targets (R25, R160). -/
def targetsOk (p : List Byte) : Bool :=
  u16 p 2 ≤ 3000 && u16 p 4 ≤ 500 && u16 p 6 ≤ 500 && (1 ≤ u8 p 8 && u8 p 8 ≤ 16) && u16 p 10 ≤ 1000
    && isFlag (u8 p 12)

/-- The record with its seven target fields replaced by the carried values (R25). -/
def TowerSettings.retargeted (r : TowerSettings) (p : List Byte) : TowerSettings :=
  { r with
    target := u16 p 2
    tolLow := u16 p 4
    tolHigh := u16 p 6
    avgCount := u8 p 8
    settleSheets := u8 p 9
    trimLimit := u16 p 10
    trimMode := if u8 p 12 = 0 then .continuous else .single }

/-- Whether a trim lies beyond plus or minus a limit. -/
def beyondLimit (limit : Nat) (x : Int) : Bool := x < -(limit : Int) || (limit : Int) < x

/-- A trim clamped to plus or minus a limit. -/
def clampTrim (limit : Nat) (x : Int) : Int := clampInt (-(limit : Int)) limit x

/-- The zones of a tower whose trim lies beyond a limit, ascending. -/
def State.zonesBeyond (s : State) (t : TowerIdx) (limit : Nat) : List ZoneIdx :=
  allZones.filter fun z => beyondLimit limit (s.trimOf t z).trim

/-- The hand-off of a Set Targets on the RUNNING slot to the Trim Unit, in the order of R116, then the Dispatch Scan for
the zones it made PENDING (R80). -/
def handOnTargets (t : TowerIdx) (limit : Nat) (s : State) : State :=
  let changed := s.zonesBeyond t limit
  let s1 := s.setTrim { s.trim with
    zones := ztab fun t' z =>
      if t' = t then { (s.trimOf t' z).resetAveraging with trim := clampTrim limit (s.trimOf t' z).trim }
      else s.trimOf t' z
    saturated := if changed.isEmpty then s.trim.saturated else put s.trim.saturated t true }
  scanIfPending s (zoneUpdates t changed s1)

/-- Set Targets (R25). -/
def setTargets (p : List Byte) (s : State) : Reply :=
  if p.length ≠ 13 then .badLength s
  else
    loadRequest p (targetsOk p) [] (fun j t =>
      let s1 := readinessEvaluation j (writeRecord j t ((s.record j t).retargeted p) s)
      .accept (if s.isRunning j then handOnTargets t (u16 p 10) s1 else s1) []) s

/-- SET_TARGETS (R25). -/
def execSetTargets (s : State) : Host.Outcome State Fault Refusal := .next (takeRequest .setTargets setTargets s)

/-! ### Load Zone Map -/

/-- The field check of Load Zone Map: Z 8 to 48, W 16 to 4096, E0 0 to 32768, E0 + Z·W no greater than 32768 (R26). -/
def mapOk (p : List Byte) : Bool :=
  (8 ≤ u8 p 2 && u8 p 2 ≤ 48) && (16 ≤ u16 p 5 && u16 p 5 ≤ 4096) && u16 p 3 ≤ 32768
    && u16 p 3 + u8 p 2 * u16 p 5 ≤ 32768

/-- The record after an accepted Load Zone Map (R27). -/
def TowerSettings.mapped (r : TowerSettings) (m : ZoneMap) : TowerSettings :=
  { r with zoneMap := some m, coverage := none, offsets := List.replicate m.zones 0, strip := .none }

/-- Load Zone Map (R26, R27). -/
def loadZoneMap (p : List Byte) (s : State) : Reply :=
  if p.length ≠ 7 then .badLength s
  else
    loadRequest p (mapOk p) [] (fun j t =>
      if s.isRunning j then .refuse .state
      else if (s.record j t).strip = .opened then .refuse .busy
      else
        .accept (readinessEvaluation j
          (writeRecord j t ((s.record j t).mapped ⟨u8 p 2, u16 p 3, u16 p 5⟩) s)) []) s

/-- LOAD_ZONE_MAP (R26). -/
def execLoadZoneMap (s : State) : Host.Outcome State Fault Refusal := .next (takeRequest .loadZoneMap loadZoneMap s)

/-! ### Clear Job -/

/-- A slot becomes EMPTY and the buffers bound to its towers are freed (R29, R35). -/
def emptySlot (j : SlotIdx) (s : State) : State := (freeBuffers (fun b => b.slot == j) s).putJob j .empty

/-- Clear Job (R29). -/
def clearJob (p : List Byte) (s : State) : Reply :=
  if p.length ≠ 1 then .badLength s
  else
    match slotOf (u8 p 0) with
    | none => ⟨s, .range, jobFields p s⟩
    | some j =>
      match look s.jobs j with
      | .held .running _ => ⟨s, .inUse, jobFields p s⟩
      | .held .armed _ => ⟨s, .busy, jobFields p s⟩
      | .empty => ⟨s, .ok, jobFields p s⟩
      | .held .loading _ => ⟨emptySlot j s, .ok, jobFields p (emptySlot j s)⟩
      | .held .ready _ => ⟨emptySlot j s, .ok, jobFields p (emptySlot j s)⟩

/-- CLEAR_JOB (R29). -/
def execClearJob (s : State) : Host.Outcome State Fault Refusal := .next (takeRequest .clearJob clearJob s)

/-! ### Read Settings -/

/-- The zone map fields of the Read Settings response, absent marks without a map (R160). -/
def mapBytes : Option ZoneMap → List Byte
  | none => byte1 0xFF ++ byte2 0xFFFF ++ byte2 0xFFFF
  | some m => byte1 m.zones ++ byte2 m.edge ++ byte2 m.width

/-- The configuration fields of a record as Read Settings returns them (R160). -/
def TowerSettings.configBytes (r : TowerSettings) : List Byte :=
  byte1 (flagNum r.enabled) ++ opt1 (r.keyCurve.map Fin.val) ++ opt1 (r.sweepCurve.map Fin.val) ++ byte1 r.sideWeight
    ++ byte2 r.scale ++ byte2 r.keyMax ++ byte1 r.deadband ++ byte1 r.movePhases.num ++ byte1 r.trimPhases.num

/-- The target fields of a record as Read Settings returns them (R160). -/
def TowerSettings.targetBytes (r : TowerSettings) : List Byte :=
  byte2 r.target ++ byte2 r.tolLow ++ byte2 r.tolHigh ++ byte1 r.avgCount ++ byte1 r.settleSheets ++ byte2 r.trimLimit
    ++ byte1 r.trimMode.num

/-- Read Settings (R31). -/
def readSettings (p : List Byte) (s : State) : ResultCode × List Byte :=
  if p.length ≠ 2 then (.range, [])
  else
    match slotOf (u8 p 0), towerOf (u8 p 1) with
    | some j, some t =>
      let job := (look s.jobs j).job
      let r := look job.towers t
      (.ok, byte1 (look s.jobs j).num ++ labelBytes job.label ++ byte1 (flagNum (look job.ready t)) ++ r.configBytes
        ++ mapBytes r.zoneMap ++ byte1 r.strip.num ++ byte1 (flagNum r.coverage.isSome) ++ r.targetBytes)
    | _, _ => (.range, [])

/-- READ_SETTINGS (R31). -/
def execReadSettings (s : State) : Host.Outcome State Fault Refusal := .next (takeRead .readSettings readSettings s)

end Sys2Proof.Machine
end

