-- ==== Sys2Proof/Machine/Cycle.lean ====
section
/-! DEFINITION. Chapter 7, Sheet Marks, Press Phase and Changeover. -/

namespace Sys2Proof.Machine

/-! ### Taking a changeover (R128) -/

/-- Step 2 of R128: the RUNNING slot becomes EMPTY with its buffers freed, and the armed slot becomes RUNNING. -/
def exchangeJobs (a : SlotIdx) (s : State) : State :=
  let s1 := match s.runningSlot with
    | some j => emptySlot j s
    | none => s
  s1.putJob a (.held .running (look s1.jobs a).job)

/-- Whether a zone keeps a place in a job: its tower is enabled and the zone lies below its zone count (R66, R117). -/
def TowerSettings.covers (r : TowerSettings) (z : ZoneIdx) : Bool :=
  r.enabled && match r.zoneMap with
    | some m => z.val < m.zones
    | none => false

/-- What one tower's zones hand to the Motion Scheduler at step 3 of R128: each K made absent (R75), then each clamped K (R74),
zones ascending in both. DESIGN CHOICE: R66 and R128 give no order among them (log entry 20). -/
def changeoverTower (t : TowerIdx) (s : State) : State :=
  clampTargets t (s.tower t).keyMax
    (withdrawTargets t (allZones.filter fun z => !(s.tower t).covers z) s)

/-- The Zone Engine's part before the passes begin (R66): every ACTIVE pass is abandoned, the tower sweep of a disabled tower
becomes absent, zones without a place lose E, B and K, and a K above the new key maximum is clamped; the Motion Scheduler
takes both. DESIGN CHOICE: towers ascending, an order that R66 and R128 leave open (log entry 20). -/
def changeoverTargets (s : State) : State :=
  let s1 := s.setEngine { s.engine with
    passes := tab fun t =>
      { (s.pass t).abandon with sweep := if (s.tower t).enabled then (s.pass t).sweep else none } }
  allTowers.foldl (fun s t => changeoverTower t s) (dropTargets (fun t z => !(s1.tower t).covers z) s1)

/-- The trim of a zone carried into a new job (R117): clamped to its trim limit where the zone keeps a place, and else 0. -/
def carriedTrim (carry : Bool) (r : TowerSettings) (z : ZoneIdx) (x : Int) : Int :=
  if carry && r.covers z then clampTrim r.trimLimit x else 0

/-- The Trim Unit's part of a changeover (R117). -/
def changeoverTrim (carry : Bool) (s : State) : State :=
  s.setTrim { s.trim with
    zones := ztab fun t z =>
      { (s.trimOf t z).resetAveraging with trim := carriedTrim carry (s.tower t) z (s.trimOf t z).trim }
    saturated := tab fun t =>
      allZones.any fun z =>
        carry && (s.tower t).covers z && beyondLimit (s.tower t).trimLimit (s.trimOf t z).trim
    armed := tab fun _ => true }

/-- A Pass Cause for each tower enabled in the running job, ascending (R66). -/
def beginPasses (s : State) : State :=
  allTowers.foldl (fun s t => if (s.tower t).enabled then passCause t s else s) s

/-- The taking of an armed changeover to slot `a`, in the order of R128. The Settle Watches are cleared at step 4, after the Zone
Engine's part: a zone that leaves PENDING at step 3 is followed by its tower's Settle Watch test (R96). -/
def takeChangeover (a : ArmedChangeover) (s : State) : State :=
  let job := (look s.jobs a.slot).job
  let s1 := s.setCycle { s.cycle with armed := none, hold := tab fun t => (look job.towers t).enabled }
  let s2 := exchangeJobs a.slot s1
  let s3 := changeoverTargets s2
  let s4 := evalRestricted (clearWatches (fun _ => true) s3)
  let s5 := changeoverTrim a.carry s4
  dispatchScan (beginPasses s5)

/-- Take the changeover where one is armed. -/
def takeArmed (s : State) : State :=
  match s.cycle.armed with
  | some a => takeChangeover a s
  | none => s

/-! ### Press Phase -/

/-- Press Phase (R123): on a phase change, an armed changeover is taken when IDLE is entered, then a Dispatch Scan is made. -/
def pressPhase (p : List Byte) (s : State) : Reply :=
  if p.length ≠ 1 then .badLength s
  else
    match Phase.ofNum? (u8 p 0) with
    | none => .bare .range s
    | some ph =>
      let taken := ph = .idle ∧ s.cycle.phase ≠ .idle ∧ s.cycle.armed.isSome
      let s1 := s.setCycle { s.cycle with phase := ph }
      let s2 := if taken then takeArmed s1 else s1
      let s3 := if ph = s.cycle.phase then s2 else dispatchScan s2
      ⟨s3, .ok, byte1 ph.num ++ s3.slotStates ++ byte1 (flagNum (decide taken))⟩

/-- PRESS_PHASE (R123). -/
def execPressPhase (s : State) : Host.Outcome State Fault Refusal := .next (takeRequest .pressPhase pressPhase s)

/-! ### Changeover and Cancel Changeover -/

/-- The fields of the response to Changeover: both slot states, the armed slot (0xFF when none), the taken indication (R125,
R160). -/
def changeoverFields (taken : Bool) (s : State) : List Byte :=
  s.slotStates ++ opt1 (s.cycle.armed.map fun a => a.slot.val) ++ byte1 (flagNum taken)

/-- Changeover (R125): RANGE, STATE, NOT_READY, BUSY, in this order; accepted, the slot becomes ARMED, and in IDLE the
changeover is taken at once. -/
def changeover (p : List Byte) (s : State) : Reply :=
  let refuse (c : ResultCode) : Reply := ⟨s, c, changeoverFields false s⟩
  if p.length ≠ 2 then .badLength s
  else
    match slotOf (u8 p 0) with
    | none => refuse .range
    | some j =>
      if isFlag (u8 p 1) then
        if s.isRunning j then refuse .state
        else if !(look s.jobs j).inRole .ready then refuse .notReady
        else if s.cycle.armed.isSome then refuse .busy
        else
          let s1 := (s.putJob j (.held .armed (look s.jobs j).job)).setCycle
            { s.cycle with armed := some ⟨j, u8 p 1 == 1⟩ }
          if s.cycle.phase = .idle then
            let s2 := takeArmed s1
            ⟨s2, .ok, changeoverFields true s2⟩
          else ⟨s1, .ok, changeoverFields false s1⟩
      else refuse .range

/-- CHANGEOVER (R125). -/
def execChangeover (s : State) : Host.Outcome State Fault Refusal := .next (takeRequest .changeover changeover s)

/-- Cancel Changeover (R126): the armed slot becomes READY with the contents it was armed with. -/
def cancelChangeover (p : List Byte) (s : State) : Reply :=
  if p.length ≠ 0 then .badLength s
  else
    match s.cycle.armed with
    | none => ⟨s, .state, s.slotStates⟩
    | some a =>
      let s1 := (s.putJob a.slot (.held .ready (look s.jobs a.slot).job)).setCycle { s.cycle with armed := none }
      ⟨s1, .ok, s1.slotStates⟩

/-- CANCEL_CHANGEOVER (R126). -/
def execCancelChangeover (s : State) : Host.Outcome State Fault Refusal :=
  .next (takeRequest .cancelChangeover cancelChangeover s)

/-! ### Sheet Mark -/

/-- A Sheet Mark (R121): the Sheet Count is incremented, held at maximum, then an armed changeover is taken. Edges while
RESET is held active are not counted. -/
def sheetMark (s : State) : State :=
  if s.link.resetHeld then s
  else takeArmed (s.setCycle { s.cycle with sheetCount := incHeld Config.sheetMax s.cycle.sheetCount })

/-- SHEET_MARK (R121). -/
def execSheetMark (s : State) : Host.Outcome State Fault Refusal := .next (sheetMark s)

end Sys2Proof.Machine
end

