-- ==== Sys2Proof/Machine/DensityTrim.lean ====
section
/-! DEFINITION. Chapter 6, Density Trim: the taking of a Density frame, Arm Trim, Clear Trim, Load Trim Bands. -/

namespace Sys2Proof.Machine

/-! ### Trim Bands -/

/-- The membership of a band at deviation size `x` (table of R109). -/
def Band.membership (w : Band) (x : Nat) : Nat :=
  if x = w.peak then 255
  else if x < w.peak then
    if 0 < w.left ∧ w.peak ≤ x + w.left then 255 * (x + w.left - w.peak) / w.left else 0
  else if w.right = 0 then 255
  else if x ≤ w.peak + w.right then 255 * (w.peak + w.right - x) / w.right
  else 0

/-- The sum of the three memberships at `x`. -/
def Trim.weight (u : Trim) (x : Nat) : Nat := u.small.membership x + u.medium.membership x + u.large.membership x

/-- The trim step at `x`: the membership-weighted mean of the band steps, half up; `none` where the memberships sum to 0
(R110). -/
def Trim.stepAt (u : Trim) (x : Nat) : Option Nat :=
  if u.weight x = 0 then none
  else some (halfUp
    (u.small.membership x * u.small.step + u.medium.membership x * u.medium.step + u.large.membership x * u.large.step)
    (u.weight x))

/-! ### The trim update -/

/-- A trim update of a zone by a step, against the sign of the deviation `d` (R111). -/
def trimUpdate (t : TowerIdx) (z : ZoneIdx) (d : Int) (step : Nat) (s : State) : State :=
  let old := (s.trimOf t z).trim
  let limit : Int := (s.tower t).trimLimit
  let wanted := old - d.sign * step
  let new := clampInt (-limit) limit wanted
  let s1 := s.putTrim t z { s.trimOf t z with trim := new }
  let s2 := if new ≠ wanted then
      raise .trimLimit (some t) (.zone t z)
        (s1.setTrim { s1.trim with saturated := put s1.trim.saturated t true })
    else s1
  if new ≠ old then zoneUpdate t z s2 else s2

/-- The window test of an average and its outcome (R107, R110, R111). The flag says whether a trim step other than 0 was
produced (R112). -/
def windowTest (t : TowerIdx) (z : ZoneIdx) (avg : Nat) (s : State) : State × Bool :=
  let r := s.tower t
  let d : Int := (avg : Int) - r.target
  if -(r.tolLow : Int) ≤ d ∧ d ≤ r.tolHigh then (s, false)
  else if look s.trim.armed t then
    match s.trim.stepAt d.natAbs with
    | none => (raise .densityOut (some t) (.zone t z) s, false)
    | some 0 => (s, false)
    | some step => (trimUpdate t z d step s, true)
  else (raise .densityOut (some t) (.zone t z) s, false)

/-! ### Density intake -/

/-- Whether a reading of zone `z` is discarded (the five conditions of R105). -/
def discards (t : TowerIdx) (z : ZoneIdx) (arrival : Nat) (s : State) : Bool :=
  !(s.tower t).enabled
    || (match (s.tower t).zoneMap with
        | some m => m.zones ≤ z.val
        | none => true)
    || !(s.tower t).trimPhases.has s.cycle.phase
    || (s.zone t z).state != .atTarget
    || arrival < (s.zone t z).settleUntil

/-- A counted reading; the one that brings the count to N forms the average (R106). -/
def countReading (t : TowerIdx) (z : ZoneIdx) (v : Nat) (s : State) : State × Bool :=
  let x := s.trimOf t z
  let sum := x.sum + v
  let n := (s.tower t).avgCount
  if x.count + 1 = n then
    let avg := halfUp sum n
    windowTest t z avg (s.putTrim t z { x with sum := 0, count := 0, lastAverage := some avg })
  else (s.putTrim t z { x with sum := sum, count := x.count + 1 }, false)

/-- One reading of a Density frame (R104, R105, R106): 65535 is skipped, a value above 3000 is clamped, a discarded reading
resets its zone's averaging. A zone that becomes PENDING by it is offered to dispatch before the next reading (R80, R103; log
entry 9). -/
def takeReading (t : TowerIdx) (z : ZoneIdx) (arrival v : Nat) (s : State) : State × Bool :=
  if v = 65535 then (s, false)
  else if discards t z arrival s then (averagingReset t z s, false)
  else
    let r := countReading t z (min v 3000) s
    (scanIfPending s r.1, r.2)

/-- The readings of a frame in ascending zone order, the first for zone number `z` (R103). The flag gathers whether any gave a
non-zero step. -/
def takeReadings (t : TowerIdx) (arrival : Nat) : Nat → List Nat → State → State × Bool
  | _, [], s => (s, false)
  | z, v :: rest, s =>
    let r := match zoneOf z with
      | some zi => takeReading t zi arrival v s
      | none => (s, false)
    let q := takeReadings t arrival (z + 1) rest r.1
    (q.1, r.2 || q.2)

/-- The SINGLE rule after a frame's last reading (R112). -/
def singleRule (t : TowerIdx) (stepped : Bool) (s : State) : State :=
  if (s.tower t).trimMode = .single ∧ stepped = true then
    s.setTrim { s.trim with armed := put s.trim.armed t false }
  else s

/-- Whether a Density payload is taken: first zone, count, their sum and the number of readings are in order (R103). -/
def densityOk (p : List Byte) : Bool :=
  3 ≤ p.length && u8 p 1 ≤ 47 && (1 ≤ u8 p 2 && u8 p 2 ≤ 48) && u8 p 1 + u8 p 2 ≤ 48
    && p.length == 3 + 2 * u8 p 2

/-- A Density frame's payload is taken with its Arrival Sheet Count; a malformed one is discarded whole (R103). -/
def takeDensity (p : List Byte) (arrival : Nat) (s : State) : State :=
  if densityOk p then
    match towerOf (u8 p 0) with
    | none => s
    | some t =>
      let r := takeReadings t arrival (u8 p 1) (u16s p 3 (u8 p 2)) s
      singleRule t r.2 r.1
  else s

/-- The Trim Unit takes the oldest frame of the M Receive Queue (R103). With the queue empty the step does not occur (log
entry 2). -/
def densityFrameTaken (s : State) : State :=
  match s.link.mReceive with
  | [] => s
  | fa :: rest => takeDensity fa.1.payload fa.2 (s.setLink { s.link with mReceive := rest })

/-- DENSITY_FRAME_TAKEN (R103). -/
def execDensityFrameTaken (s : State) : Host.Outcome State Fault Refusal := .next (densityFrameTaken s)

/-! ### Arm Trim -/

/-- The towers a tower field names: one, or all twelve for ALL (0xFF); `none` for any other value (R113, R114, R156). -/
def towersNamed (n : Nat) : Option (List TowerIdx) :=
  if n = 0xFF then some allTowers else (towerOf n).map fun t => [t]

/-- Arm Trim (R113). -/
def armTrim (p : List Byte) (s : State) : Reply :=
  if p.length ≠ 2 then .badLength s
  else
    match towersNamed (u8 p 0) with
    | none => .bare .range s
    | some ts =>
      if isFlag (u8 p 1) then
        let s1 := s.setTrim { s.trim with
          armed := tab fun t => if t ∈ ts then u8 p 1 == 1 else look s.trim.armed t }
        ⟨s1, .ok, byte2 (setNum s1.trim.armed)⟩
      else .bare .range s

/-- ARM_TRIM (R113). -/
def execArmTrim (s : State) : Host.Outcome State Fault Refusal := .next (takeRequest .armTrim armTrim s)

/-! ### Clear Trim -/

/-- The zones of the named towers whose trim is not 0, towers ascending and zones ascending (R114). -/
def State.trimmedZones (s : State) (ts : List TowerIdx) : List (TowerIdx × ZoneIdx) :=
  allPairs.filter fun p => p.1 ∈ ts && (s.trimOf p.1 p.2).trim != 0

/-- Clear Trim (R114): trims 0, Trim Saturated clear, averaging reset, then a Zone Update for each zone whose trim was not 0,
and the Dispatch Scan for the zones it made PENDING (R80). -/
def clearTrim (p : List Byte) (s : State) : Reply :=
  if p.length ≠ 1 then .badLength s
  else
    match towersNamed (u8 p 0) with
    | none => .bare .range s
    | some ts =>
      let changed := s.trimmedZones ts
      let s1 := s.setTrim { s.trim with
        zones := ztab fun t z =>
          if t ∈ ts then { (s.trimOf t z).resetAveraging with trim := 0 } else s.trimOf t z
        saturated := tab fun t => if t ∈ ts then false else look s.trim.saturated t }
      let s2 := scanIfPending s (changed.foldl (fun s q => zoneUpdate q.1 q.2 s) s1)
      ⟨s2, .ok, byte2 changed.length⟩

/-- CLEAR_TRIM (R114). -/
def execClearTrim (s : State) : Host.Outcome State Fault Refusal := .next (takeRequest .clearTrim clearTrim s)

/-! ### Load Trim Bands -/

/-- The band whose seven bytes begin at byte `i` (R160). -/
def bandAt (p : List Byte) (i : Nat) : Band := ⟨u16 p i, u16 p (i + 2), u16 p (i + 4), u8 p (i + 6)⟩

/-- The field check of one band: p, a and b in 0 to 3000 (R115); a step of one byte is in 0 to 255. -/
def Band.inRange (w : Band) : Bool := w.peak ≤ 3000 && w.left ≤ 3000 && w.right ≤ 3000 && w.step ≤ 255

/-- A band as its seven bytes (R160). -/
def Band.bytes (w : Band) : List Byte := byte2 w.peak ++ byte2 w.left ++ byte2 w.right ++ byte1 w.step

/-- Load Trim Bands (R115). -/
def loadTrimBands (p : List Byte) (s : State) : Reply :=
  if p.length ≠ 21 then .badLength s
  else if (bandAt p 0).inRange && (bandAt p 7).inRange && (bandAt p 14).inRange then
    let s1 := s.setTrim { s.trim with small := bandAt p 0, medium := bandAt p 7, large := bandAt p 14 }
    ⟨s1, .ok, s1.trim.small.bytes ++ s1.trim.medium.bytes ++ s1.trim.large.bytes⟩
  else .bare .range s

/-- LOAD_TRIM_BANDS (R115). -/
def execLoadTrimBands (s : State) : Host.Outcome State Fault Refusal :=
  .next (takeRequest .loadTrimBands loadTrimBands s)

end Sys2Proof.Machine
end

