-- ==== Sys2Proof/Machine/Resets.lean ====
section
/-! DEFINITION. Bridge Reset, power-on reset and its release (R158, R159 and the reset rules of each chapter). -/

namespace Sys2Proof.Machine

/-- The Motion Scheduler after a Bridge Reset: limits, move timeout and every zone's tag are kept, all else takes its
power-on value (R99). -/
def Motion.bridgeReset (m : Motion) : Motion :=
  { Motion.reset with
    zones := ztab fun t z => { MotionZone.reset with tag := (zlook m.zones t z).tag }
    concurrency := m.concurrency
    cap := m.cap
    timeout := m.timeout }

/-- The Trim Unit after a Bridge Reset: the bands are kept (R119). -/
def Trim.bridgeReset (u : Trim) : Trim :=
  { Trim.reset with small := u.small, medium := u.medium, large := u.large }

/-- The Cycle Unit after a Bridge Reset: the Sheet Count and the Press Phase are kept (R133). -/
def Cycle.bridgeReset (c : Cycle) : Cycle := { Cycle.reset with sheetCount := c.sheetCount, phase := c.phase }

/-- The Notice Unit after a Bridge Reset: every record is removed, the controls are kept (R142). -/
def NoticeUnit.bridgeReset (n : NoticeUnit) : NoticeUnit := { n with records := Vector.replicate 8 none }

/-- The Link Controller after a Bridge Reset: the Response Queue, the frames in transmission and the own address are kept, the
other queues emptied (R158). -/
def Link.bridgeReset (l : Link) : Link :=
  { l with uReceive := [], upForward := [], downForward := [], mReceive := [] }

/-- Bridge Reset (R158): each block's part; the Curve Library is kept (R13), both Job Slots become EMPTY (R33), every buffer
is freed (R51), the Zone Engine takes its power-on state (R72). -/
def bridgeReset (p : List Byte) (s : State) : Reply :=
  if p.length ≠ 0 then .badLength s
  else
    let s1 : State := { s with
      jobs := Vector.replicate 2 .empty
      buffers := Vector.replicate 4 none
      engine := .reset
      motion := s.motion.bridgeReset
      trim := s.trim.bridgeReset
      cycle := s.cycle.bridgeReset
      notice := s.notice.bridgeReset
      link := s.link.bridgeReset }
    ⟨s1, .ok, []⟩

/-- BRIDGE_RESET (R158). -/
def execBridgeReset (s : State) : Host.Outcome State Fault Refusal := .next (takeRequest .bridgeReset bridgeReset s)

/-- Power-on reset: every block takes its power-on state and RESET is held active (R159 and the reset rules). The model's own
queue of commands and count of free values stay. -/
def powerOnReset (s : State) : State := (State.reset.setFreeCount s.freeCount).setPending s.pending

/-- POWER_ON_RESET (R159). -/
def execPowerOnReset (s : State) : Host.Outcome State Fault Refusal := .next (powerOnReset s)

/-- RESET is released: the strap pins are read and fix the own address, and reception begins (R145, R159). Where RESET is not
held there is nothing to release and the step does not occur (log entry 2). -/
def resetRelease (straps : BitVec 3) (s : State) : State :=
  if s.link.resetHeld then
    s.setLink { s.link with ownAddress := Config.controllerBase + straps.zeroExtend 8, resetHeld := false }
  else s

/-- RESET_RELEASE (R145). -/
def execResetRelease (straps : BitVec 3) (s : State) : Host.Outcome State Fault Refusal := .next (resetRelease straps s)

end Sys2Proof.Machine
end

