-- ==== Sys2Proof/Machine/Strips.lean ====
section
/-! DEFINITION. Chapter 3, Coverage Strips and Zone Integration: Strip Open, Strip Segment, Strip Close. -/

namespace Sys2Proof.Machine

/-! ### Strip Open -/

/-- A buffer as a Strip Open sets it: every flag clear, every accumulator and count 0 (R37, R38). -/
def Buffer.fresh (j : SlotIdx) (t : TowerIdx) (length : Nat) (order : ScanOrder) (zones : Nat) : Buffer where
  slot := j
  tower := t
  length := length
  order := order
  received := List.replicate length false
  acc := List.replicate zones 0
  receivedCount := 0
  duplicateCount := 0
  excessCount := 0
  clampedCount := 0

/-- Replace the contents of one buffer place. -/
def State.putBuffer (s : State) (i : Fin 4) (b : Option Buffer) : State := s.setBuffers (put s.buffers i b)

/-- The scan order of a code: ASCENDING 0, DESCENDING 1 (R160). -/
def ScanOrder.ofNum (n : Nat) : ScanOrder := if n = 0 then .ascending else .descending

/-- The field check of Strip Open (R36). -/
def openOk (p : List Byte) : Bool := (1 ≤ u16 p 2 && u16 p 2 ≤ 2048) && isFlag (u8 p 4)

/-- Strip Open's own state checks and its effect (R36, R37, R38). The response adds the restarted indication and the number
of buffers bound (R40). -/
def openBody (p : List Byte) (s : State) (j : SlotIdx) (t : TowerIdx) : Verdict :=
  let r := s.record j t
  match r.zoneMap with
  | none => .refuse .state
  | some m =>
    let b := Buffer.fresh j t (u16 p 2) (.ofNum (u8 p 4)) m.zones
    if r.strip = .opened then
      let s1 := match s.bufferOf j t with
        | some ib => s.putBuffer ib.1 (some b)
        | none => s
      let s2 := readinessEvaluation j s1
      .accept s2 (byte1 1 ++ byte1 s2.buffersBound)
    else
      match s.freeBuffer with
      | none => .refuse .noRoom
      | some i =>
        let s2 := readinessEvaluation j (writeRecord j t { r with strip := .opened } (s.putBuffer i (some b)))
        .accept s2 (byte1 0 ++ byte1 s2.buffersBound)

/-- Strip Open (R36). A refusal reports restarted clear and the unchanged number of buffers (R40). -/
def stripOpen (p : List Byte) (s : State) : Reply :=
  if p.length ≠ 5 then .badLength s
  else loadRequest p (openOk p) (byte1 0 ++ byte1 s.buffersBound) (openBody p s) s

/-- STRIP_OPEN (R36). -/
def execStripOpen (s : State) : Host.Outcome State Fault Refusal := .next (takeRequest .stripOpen stripOpen s)

/-! ### Strip Segment -/

/-- The physical column of strip index `i` (R44). -/
def Buffer.column (b : Buffer) (i : Nat) : Nat :=
  match b.order with
  | .ascending => i
  | .descending => b.length - 1 - i

/-- The overlap, in sixteenths, of physical column `c` with zone `z` of a map (R45). -/
def overlap (m : ZoneMap) (c z : Nat) : Nat :=
  min (16 * c + 16) (m.edge + (z + 1) * m.width) - max (16 * c) (m.edge + z * m.width)

/-- Zone Integration of a column value into accumulators that belong to zones `z`, `z + 1`, … (R45). -/
def integrateFrom (m : ZoneMap) (c v : Nat) : Nat → List Nat → List Nat
  | _, [] => []
  | z, a :: rest => (a + v * overlap m c z) :: integrateFrom m c v (z + 1) rest

/-- One column value of a segment, with strip index `i`: excess, duplicate, or clamped and integrated (table of R42). -/
def takeColumn (m : ZoneMap) (b : Buffer) (i v : Nat) : Buffer :=
  if b.length ≤ i then { b with excessCount := incHeld Config.countMax b.excessCount }
  else if b.received.getD i false then { b with duplicateCount := incHeld Config.countMax b.duplicateCount }
  else
    { b with
      acc := integrateFrom m (b.column i) (min v 1000) 0 b.acc
      received := b.received.set i true
      receivedCount := incHeld Config.countMax b.receivedCount
      clampedCount := if 1000 < v then incHeld Config.countMax b.clampedCount else b.clampedCount }

/-- The values of a segment, one at a time in ascending index order, the first with strip index `i` (R42). -/
def takeColumns (m : ZoneMap) : Buffer → Nat → List Nat → Buffer
  | b, _, [] => b
  | b, i, v :: rest => takeColumns m (takeColumn m b i v) (i + 1) rest

/-- The counts of a buffer after a segment: received, duplicate, excess, clamped (R43). -/
def Buffer.segmentCounts (b : Buffer) : List Byte :=
  byte2 b.receivedCount ++ byte2 b.duplicateCount ++ byte2 b.excessCount ++ byte2 b.clampedCount

/-- Strip Segment's own state check and its effect (R41, R42). -/
def segmentBody (p : List Byte) (s : State) (j : SlotIdx) (t : TowerIdx) : Verdict :=
  let r := s.record j t
  if r.strip = .opened then
    match r.zoneMap, s.bufferOf j t with
    | some m, some ib =>
      let b := takeColumns m ib.2 (u16 p 2) (u16s p 5 (u8 p 4))
      .accept (readinessEvaluation j (s.putBuffer ib.1 (some b))) b.segmentCounts
    | _, _ => .refuse .state
  else .refuse .state

/-- Strip Segment (R41). A count out of range is refused RANGE by the request's own check (log entry 7); a number of values
other than the count is a wrong payload length (R153). -/
def stripSegment (p : List Byte) (s : State) : Reply :=
  let n := u8 p 4
  if p.length < 5 then .badLength s
  else if n < 1 ∨ 96 < n then ⟨s, .range, loadFields p s⟩
  else if p.length ≠ 5 + 2 * n then .badLength s
  else loadRequest p true [] (segmentBody p s) s

/-- STRIP_SEGMENT (R41). -/
def execStripSegment (s : State) : Host.Outcome State Fault Refusal :=
  .next (takeRequest .stripSegment stripSegment s)

/-! ### Strip Close -/

/-- The coverage array of a buffer: A_z / W, half up (R46). -/
def Buffer.coverage (b : Buffer) (m : ZoneMap) : List Nat := b.acc.map fun a => halfUp a m.width

/-- The counts of the response to Strip Close: received, missing, duplicate, excess (R48). -/
def Buffer.closeCounts (b : Buffer) : List Byte :=
  byte2 b.receivedCount ++ byte2 (b.length - b.receivedCount) ++ byte2 b.duplicateCount ++ byte2 b.excessCount

/-- Strip Close's own state check and its effect, in the order of R47: coverage array, buffer freed, strip CLOSED, Readiness
Evaluation, Pass Cause for an enabled tower of the running job. -/
def closeBody (s : State) (j : SlotIdx) (t : TowerIdx) : Verdict :=
  let r := s.record j t
  if r.strip = .opened then
    match r.zoneMap, s.bufferOf j t with
    | some m, some ib =>
      let r' := { r with coverage := some (ib.2.coverage m), strip := .closed }
      let s1 := readinessEvaluation j (writeRecord j t r' (s.putBuffer ib.1 none))
      .accept (if s.isRunning j && r.enabled then passCause t s1 else s1) ib.2.closeCounts
    | _, _ => .refuse .state
  else .refuse .state

/-- Strip Close (R46). -/
def stripClose (p : List Byte) (s : State) : Reply :=
  if p.length ≠ 2 then .badLength s else loadRequest p true [] (closeBody s) s

/-- STRIP_CLOSE (R46). -/
def execStripClose (s : State) : Host.Outcome State Fault Refusal := .next (takeRequest .stripClose stripClose s)

end Sys2Proof.Machine
end

