-- ==== Sys2Proof/Machine/Curves.lean ====
section
/-! DEFINITION. Chapter 1, Ink Curves: Load Curve, Erase Curve, Read Curve and Curve Evaluation. -/

namespace Sys2Proof.Machine

/-- Whether each number is greater than the one before it. -/
def strictlyAscending : List Nat → Bool
  | [] => true
  | a :: rest =>
    match rest with
    | [] => true
    | b :: _ => a < b && strictlyAscending rest

/-- The greatest y of a curve of a kind (R2). -/
def CurveKind.yMax : CurveKind → Nat
  | .key => 4095
  | .sweep => 1000

/-- The conditions of R2 on a curve's contents. -/
def Curve.valid (c : Curve) : Bool :=
  (match c.label with
    | none => true
    | some l => 1 ≤ l.length && l.length ≤ 8 && labelOk l)
  && (2 ≤ c.vertices.length && c.vertices.length ≤ 9)
  && (c.vertices.map Prod.fst).head? == some 0
  && (c.vertices.map Prod.fst).getLast? == some 1000
  && strictlyAscending (c.vertices.map Prod.fst)
  && c.vertices.all fun v => v.2 ≤ c.kind.yMax

/-! ### Curve Evaluation -/

/-- The value of the segment from (x0, y0) to (x1, y1) at x (R10). -/
def interpolate (x0 y0 x1 y1 x : Nat) : Nat :=
  ((y0 : Int) + roundNearest (((y1 : Int) - y0) * (x - x0 : Nat)) (x1 - x0)).toNat

/-- The value at x of the segment in which x lies: closed at its left vertex, open at its right (R9, R10). -/
def evalSegments : List (Nat × Nat) → Nat → Option Nat
  | [], _ => none
  | v :: rest, x =>
    match rest with
    | [] => none
    | w :: _ => if v.1 ≤ x ∧ x < w.1 then some (interpolate v.1 v.2 w.1 w.2 x) else evalSegments rest x

/-- A curve at argument x: at 1000 the last vertex's y, and else the segment's value (R9). -/
def Curve.eval (c : Curve) (x : Nat) : Option Nat :=
  if x = 1000 then c.vertices.getLast?.map Prod.snd else evalSegments c.vertices x

/-- A Curve Evaluation of a slot at x that expects a kind: no value for an EMPTY slot or one of the other kind (R11). -/
def curveEvaluation (lib : Library) (k : CurveKind) (slot : CurveIdx) (x : Nat) : Option Nat :=
  match look lib slot with
  | none => none
  | some c => if c.kind = k then c.eval x else none

/-! ### Library changes -/

/-- Whether a Library Change of slot `c` re-evaluates a record: enabled, and it names the slot (R6). -/
def TowerSettings.touched (r : TowerSettings) (c : CurveIdx) : Bool := r.enabled && r.names c

/-- A job after the readiness re-evaluation of the towers that name slot `c` (R6). -/
def Job.reevaluate (lib : Library) (c : CurveIdx) (j : Job) : Job :=
  { j with ready := tab fun t =>
      if (look j.towers t).touched c then towerReady lib (look j.towers t) else look j.ready t }

/-- A Job Slot after a Library Change of slot `c`: a LOADING or READY slot with a re-evaluated tower takes its state from its
towers (R6). -/
def JobSlot.afterLibraryChange (lib : Library) (c : CurveIdx) : JobSlot → JobSlot
  | .empty => .empty
  | .held r job =>
    if (r = .loading ∨ r = .ready) ∧ (allTowers.any fun t => (look job.towers t).touched c) then
      .held (job.reevaluate lib c).preparedRole (job.reevaluate lib c)
    else .held r job

/-- Write a curve slot; a Library Change follows (R3, R4, R6). -/
def changeLibrary (c : CurveIdx) (x : Option Curve) (s : State) : State :=
  let lib := put s.library c x
  (s.setLibrary lib).setJobs (tab fun j => (look s.jobs j).afterLibraryChange lib c)

/-- The fields of the response to Load Curve and Erase Curve: slot and both Job Slot states (R7). -/
def curveFields (p : List Byte) (s : State) : List Byte := byte1 (u8 p 0) ++ s.slotStates

/-! ### Load Curve -/

/-- The curve carried by a Load Curve with label length `m`, vertex count `n` and kind `k` (R160). -/
def carriedCurve (p : List Byte) (m n : Nat) (k : CurveKind) : Curve :=
  ⟨k, labelOf ((p.drop 3).take m), vertexList p (4 + m) n⟩

/-- Load Curve (R3): contents, then In Use, then the slot's content is replaced. A label length or vertex count out of range
is refused RANGE on the count, by the request's own check (R2, R153; log entry 7); a length that disagrees with the counts
is a malformed request (R2, R153). -/
def loadCurve (p : List Byte) (s : State) : Reply :=
  let m := u8 p 2
  let n := u8 p (3 + m)
  let refuse (c : ResultCode) : Reply := ⟨s, c, curveFields p s⟩
  if p.length < 3 then .badLength s
  else if 8 < m then refuse .range
  else if p.length < 4 + m then .badLength s
  else if n < 2 ∨ 9 < n then refuse .range
  else if p.length ≠ 4 + m + 4 * n then .badLength s
  else
    match curveOf (u8 p 0), CurveKind.ofNum? (u8 p 1) with
    | some c, some k =>
      if (carriedCurve p m n k).valid then
        if s.inUse c then refuse .inUse
        else
          let s' := changeLibrary c (some (carriedCurve p m n k)) s
          ⟨s', .ok, curveFields p s'⟩
      else refuse .range
    | _, _ => refuse .range

/-- LOAD_CURVE (R3). -/
def execLoadCurve (s : State) : Host.Outcome State Fault Refusal := .next (takeRequest .loadCurve loadCurve s)

/-! ### Erase Curve -/

/-- Erase Curve (R4): slot number, then In Use, then the slot becomes EMPTY. -/
def eraseCurve (p : List Byte) (s : State) : Reply :=
  if p.length ≠ 1 then .badLength s
  else
    match curveOf (u8 p 0) with
    | none => ⟨s, .range, curveFields p s⟩
    | some c =>
      if s.inUse c then ⟨s, .inUse, curveFields p s⟩
      else
        let s' := changeLibrary c none s
        ⟨s', .ok, curveFields p s'⟩

/-- ERASE_CURVE (R4). -/
def execEraseCurve (s : State) : Host.Outcome State Fault Refusal := .next (takeRequest .eraseCurve eraseCurve s)

/-! ### Read Curve -/

/-- A curve slot's state and contents, absent fields for an EMPTY slot (R8, R160). -/
def slotReport : Option Curve → List Byte
  | none => byte1 0 ++ byte1 0xFF ++ byte1 0 ++ byte1 0
  | some c =>
    byte1 1 ++ byte1 c.kind.num ++ labelBytes c.label ++ byte1 c.vertices.length
      ++ c.vertices.flatMap fun v => byte2 v.1 ++ byte2 v.2

/-- The protection indication: bit 0 RUNNING, bit 1 ARMED (R8, R160). -/
def State.protection (s : State) (c : CurveIdx) : Nat :=
  flagNum (s.namedBy .running c) + 2 * flagNum (s.namedBy .armed c)

/-- Read Curve (R8). -/
def readCurve (p : List Byte) (s : State) : ResultCode × List Byte :=
  if p.length ≠ 1 then (.range, [])
  else
    match curveOf (u8 p 0) with
    | none => (.range, [])
    | some c => (.ok, byte1 c.val ++ slotReport (look s.library c) ++ byte1 (s.protection c))

/-- READ_CURVE (R8). -/
def execReadCurve (s : State) : Host.Outcome State Fault Refusal := .next (takeRead .readCurve readCurve s)

end Sys2Proof.Machine
end

