-- ==== Sys2Proof/Machine/Targets.lean ====
section
/-! DEFINITION. Chapter 4, Key Target Computation: Zone Computation, pass completion, Set Offsets. -/

namespace Sys2Proof.Machine

/-! ### Stage arithmetic -/

/-- The effective coverage of zone `z`: the spread sum over 256, half up; a missing neighbour is replaced by the zone's own
value (R57). -/
def effectiveCoverage (side : Nat) (c : List Nat) (z : Nat) : Nat :=
  let own := c.getD z 0
  let left := if z = 0 then own else c.getD (z - 1) 0
  let right := if z + 1 < c.length then c.getD (z + 1) 0 else own
  halfUp (side * left + (256 - 2 * side) * own + side * right) 256

/-- The base opening: y · scale / 1024, half up, clamped to 0 to 4095 (R58). -/
def baseOpening (y scale : Nat) : Nat := min 4095 (halfUp (y * scale) 1024)

/-- A Curve Evaluation through an optional curve reference; no reference yields no value. -/
def evaluateRef (lib : Library) (k : CurveKind) (ref : Option CurveIdx) (x : Nat) : Option Nat :=
  match ref with
  | none => none
  | some c => curveEvaluation lib k c x

/-- The value of a Curve Evaluation where it yields one, and else a free value, with the state that has counted its use
(R11; log entry 6). -/
def valueOrFree (v : Option Nat) (s : State) : Nat × State :=
  match v with
  | some y => (y, s)
  | none => (Config.missingCurveValue s.freeCount, s.setFreeCount (s.freeCount + 1))

/-! ### Completion of a pass -/

/-- The entry with its value replaced where it is a SWEEP of the tower (R61). -/
def DriveEntry.resweep (t : TowerIdx) (v : Nat) : DriveEntry → DriveEntry
  | .move t' z g tag => .move t' z g tag
  | .sweep t' w => if t' == t then .sweep t' v else .sweep t' w

/-- Whether a SWEEP of the tower stands in the Drive Command Queue unsent. -/
def State.sweepQueued (s : State) (t : TowerIdx) : Bool := s.motion.queue.any (DriveEntry.isSweepOf t)

/-- A sweep is handed to the Drive Command Queue: in place of a queued SWEEP, or appended at the tail (R61). -/
def handSweep (t : TowerIdx) (v : Nat) (s : State) : State :=
  if s.sweepQueued t then s.setMotion { s.motion with queue := s.motion.queue.map (DriveEntry.resweep t v) }
  else appendDrive (.sweep t v) s

/-- The tower's sweep at the completion of a pass (R61): computed from the pass mean and handed on where it differs from the
tower sweep; absent where the tower has no sweep curve. -/
def completeSweep (t : TowerIdx) (s : State) : State :=
  match (s.tower t).sweepCurve with
  | none => s.putPass t { s.pass t with sweep := none }
  | some c =>
    let r := valueOrFree ((s.pass t).mean.bind fun m => curveEvaluation s.library .sweep c m) s
    let v := min 1000 r.1
    if (s.pass t).sweep = some v then r.2
    else handSweep t v (r.2.putPass t { s.pass t with sweep := some v })

/-- The last step of a completion: a set rerun flag is cleared and a new pass begins if the tower is ready; otherwise the
state becomes NONE (R62, steps 4 and 5). -/
def rerunOrEnd (t : TowerIdx) (s : State) : State :=
  if (s.pass t).rerun && look s.running.ready t then beginPass t s
  else s.putPass t { s.pass t with state := .none, rerun := false }

/-- The Settle Watch of a tower is set, and tested (R96). -/
def setWatch (t : TowerIdx) (s : State) : State :=
  settleTest t (s.setMotion { s.motion with watch := put s.motion.watch t true })

/-- The completion of a pass, in the order of R62. -/
def completePass (t : TowerIdx) (s : State) : State := rerunOrEnd t (leaveHold t (setWatch t (completeSweep t s)))

/-! ### Zone Computation -/

/-- Whether the Zone Computation of tower `t` can be taken: its pass is ACTIVE with a cursor at a zone of its map, over a
coverage array of Z values (R55, R56). -/
def State.canCompute (s : State) (t : TowerIdx) : Bool :=
  (s.pass t).state == .active &&
  match (s.tower t).zoneMap, (s.tower t).coverage with
  | some m, some c => c.length == m.zones && (s.pass t).cursor < m.zones
  | _, _ => false

/-- E, B and K of the zone at the cursor, with the state that has counted a free value used (R57, R58, R59). -/
def computeZone (t : TowerIdx) (z : ZoneIdx) (s : State) : Target × State :=
  let r := s.tower t
  let e := effectiveCoverage r.sideWeight (r.coverage.getD []) z.val
  let y := valueOrFree (evaluateRef s.library .key r.keyCurve e) s
  let b := baseOpening y.1 r.scale
  (⟨e, b, keyTarget b (s.trimOf t z).trim (r.offsetOf z) r.keyMax⟩, y.2)

/-- The Zone Computation of zone `z` (R56): E, B and K are written, K is handed on with the Dispatch Scan of a zone that
becomes PENDING (R80; log entry 9), and the cursor advances. -/
def computeAt (t : TowerIdx) (z : ZoneIdx) (s : State) : State :=
  let g := computeZone t z s
  let s1 := scanIfPending s (rewriteTarget t z g.1 g.1.k g.2)
  s1.putPass t { s1.pass t with cursor := (s1.pass t).cursor + 1 }

/-- Whether the cursor of tower `t`'s pass has reached Z. -/
def State.passDone (s : State) (t : TowerIdx) : Bool :=
  match (s.tower t).zoneMap with
  | some m => m.zones ≤ (s.pass t).cursor
  | none => false

/-- A Zone Computation of tower `t`, followed by the completion when the cursor reaches Z (R56, R62). Where no pass of the
tower is ACTIVE the step does not occur (log entry 2). -/
def zoneComputation (t : TowerIdx) (s : State) : State :=
  if s.canCompute t then
    match zoneOf (s.pass t).cursor with
    | none => s
    | some z =>
      let s1 := computeAt t z s
      if s1.passDone t then completePass t s1 else s1
  else s

/-- ZONE_COMPUTATION (R56). -/
def execZoneComputation (t : TowerIdx) (s : State) : Host.Outcome State Fault Refusal := .next (zoneComputation t s)

/-! ### Set Offsets -/

/-- An offset as it is written: clamped to −500 to +500 (R70). -/
def clampOffset (x : Int) : Int := clampInt (-500) 500 x

/-- Offsets with the k-th carried value written into zone `first + k`, clamped (R70). -/
def writeOffsets (old : List Int) (first : Nat) (vals : List Int) : List Int :=
  (List.range old.length).map fun i =>
    if first ≤ i ∧ i < first + vals.length then clampOffset (vals.getD (i - first) 0) else old.getD i 0

/-- The zones `first` to `first + count − 1`. -/
def zoneRun (first count : Nat) : List ZoneIdx := allZones.filter fun z => first ≤ z.val && z.val < first + count

/-- Set Offsets' own state checks and its effect (R69, R70). -/
def offsetsBody (p : List Byte) (s : State) (j : SlotIdx) (t : TowerIdx) : Verdict :=
  let r := s.record j t
  let first := u8 p 2
  let n := u8 p 3
  let vals := s16s p 4 n
  match r.zoneMap with
  | none => .refuse .state
  | some m =>
    if m.zones < first + n then .refuse .range
    else
      let s1 := readinessEvaluation j (writeRecord j t { r with offsets := writeOffsets r.offsets first vals } s)
      .accept (if s.isRunning j then scanIfPending s1 (zoneUpdates t (zoneRun first n) s1) else s1)
        (byte1 (vals.filter fun v => clampOffset v != v).length)

/-- Set Offsets (R69). A count out of range is refused RANGE by the request's own check (log entry 7). -/
def setOffsets (p : List Byte) (s : State) : Reply :=
  let n := u8 p 3
  if p.length < 4 then .badLength s
  else if n < 1 ∨ 48 < n then ⟨s, .range, loadFields p s⟩
  else if p.length ≠ 4 + 2 * n then .badLength s
  else loadRequest p (u8 p 2 ≤ 47) [] (offsetsBody p s) s

/-- SET_OFFSETS (R69). -/
def execSetOffsets (s : State) : Host.Outcome State Fault Refusal := .next (takeRequest .setOffsets setOffsets s)

end Sys2Proof.Machine
end

