-- ==== Sys2Proof/Machine/KeyMotion.lean ====
section
/-! DEFINITION. Chapter 5, Key Motion: Set Motion Limits, Clear Key Fault, Key Reports, Move Timeout, and the sending of
Drive Command Queue entries. -/

namespace Sys2Proof.Machine

/-! ### Set Motion Limits -/

/-- The field check of Set Motion Limits (R83). -/
def limitsOk (p : List Byte) : Bool :=
  (1 ≤ u8 p 0 && u8 p 0 ≤ 32) && 1 ≤ u8 p 1
    && allTowers.all fun t => 1 ≤ u8 p (2 + t.val) && u8 p (2 + t.val) ≤ 8

/-- The fourteen limits now in force, as the response carries them (R83, R160). -/
def State.limitBytes (s : State) : List Byte :=
  byte1 s.motion.cap ++ byte1 s.motion.timeout
    ++ allTowers.flatMap fun t => byte1 (look s.motion.concurrency t)

/-- Set Motion Limits (R83): the limits are replaced, Restricted Motion is re-evaluated and a Dispatch Scan is made. -/
def setMotionLimits (p : List Byte) (s : State) : Reply :=
  if p.length ≠ 14 then .badLength s
  else if limitsOk p then
    let s1 := s.setMotion { s.motion with
      cap := u8 p 0
      timeout := u8 p 1
      concurrency := tab fun t => u8 p (2 + t.val) }
    let s2 := dispatchScan (evalRestricted s1)
    ⟨s2, .ok, s2.limitBytes ++ byte1 (flagNum s2.motion.restricted)⟩
  else .bare .range s

/-- SET_MOTION_LIMITS (R83). -/
def execSetMotionLimits (s : State) : Host.Outcome State Fault Refusal :=
  .next (takeRequest .setMotionLimits setMotionLimits s)

/-! ### Clear Key Fault -/

/-- Clear one zone: position UNKNOWN, PENDING when K is defined and NO_TARGET when it is absent (R94). -/
def clearFault (t : TowerIdx) (z : ZoneIdx) (s : State) : State :=
  setMotionState t z (if (s.targetOf t z).isSome then .pending else .noTarget)
    (s.putZone t z { s.zone t z with actual := none })

/-- The FAULTED zones of a tower, ascending. -/
def State.faultedZones (s : State) (t : TowerIdx) : List ZoneIdx :=
  allZones.filter fun z => (s.zone t z).state = .faulted

/-- The zones a Clear Key Fault names: the FAULTED zones of the tower for ALL (0xFF), else the named zone where it is
FAULTED; `none` for a zone out of range (R94). -/
def faultsNamed (s : State) (t : TowerIdx) (zoneByte : Nat) : Option (List ZoneIdx) :=
  if zoneByte = 0xFF then some (s.faultedZones t)
  else (zoneOf zoneByte).map fun z => if (s.zone t z).state = .faulted then [z] else []

/-- Clear Key Fault (R94): RANGE, then STATE, then each zone is cleared and a Dispatch Scan serves those that became
PENDING. -/
def clearKeyFault (p : List Byte) (s : State) : Reply :=
  if p.length ≠ 2 then .badLength s
  else
    match towerOf (u8 p 0) with
    | none => .bare .range s
    | some t =>
      match faultsNamed s t (u8 p 1) with
      | none => .bare .range s
      | some [] => .bare .state s
      | some zs =>
        let s1 := scanIfPending s (zs.foldl (fun s z => clearFault t z s) s)
        ⟨s1, .ok, byte1 t.val ++ byte1 zs.length⟩

/-- CLEAR_KEY_FAULT (R94). -/
def execClearKeyFault (s : State) : Host.Outcome State Fault Refusal :=
  .next (takeRequest .clearKeyFault clearKeyFault s)

/-! ### Key Reports -/

/-- Settle-until of an arrival: the Sheet Count plus the tower's settle sheets in the running job, held at its greatest
value (R95). -/
def State.settleFrom (s : State) (t : TowerIdx) : Nat :=
  min Config.sheetMax (s.cycle.sheetCount + (s.tower t).settleSheets)

/-- Whether a report with this tag matches its zone: in MOVING or RETRY, the outstanding tag, its MOVE sent (R87). -/
def State.reportMatches (s : State) (t : TowerIdx) (z : ZoneIdx) (tag : BitVec 8) : Bool :=
  (s.zone t z).state.inFlight && (s.zone t z).tag == tag && !s.moveQueued t z

/-- A move ends: its timer is stopped, its place released and its commanded target becomes absent (R89, R90, R93). -/
def endMove (t : TowerIdx) (z : ZoneIdx) (s : State) : State :=
  let s1 := releasePlace t s
  s1.putZone t z { s1.zone t z with timer := none, commanded := none }

/-- The motion state an arrival leaves: by K and the position just recorded (R89, step 5). -/
def State.arrivalState (s : State) (t : TowerIdx) (z : ZoneIdx) : MotionState :=
  match s.targetOf t z with
  | none => .noTarget
  | some g => if s.withinDeadband t z g.k then .atTarget else .pending

/-- A matching ARRIVED report, its position already recorded (R89). -/
def arrived (t : TowerIdx) (z : ZoneIdx) (s : State) : State :=
  let s1 := endMove t z s
  let s2 := s1.putZone t z { s1.zone t z with settleUntil := s1.settleFrom t }
  dispatchScan (setMotionState t z (s2.arrivalState t z) s2)

/-- A move ends in failure: FAULTED, KEY_FAULT raised, Dispatch Scan (R90, R93). -/
def failMove (t : TowerIdx) (z : ZoneIdx) (s : State) : State :=
  dispatchScan (raise .keyFault (some t) (.zone t z) (setMotionState t z .faulted (endMove t z s)))

/-- A Key Report of tower `t` for zone `z` (R88): the position is recorded, at most 4095, and a matching report ends the move.
-/
def keyReport (t : TowerIdx) (z : ZoneIdx) (tag : BitVec 8) (position : Nat) (stalled : Bool) (s : State) : State :=
  let s1 := s.putZone t z { s.zone t z with actual := some (min position 4095) }
  if s1.reportMatches t z tag then
    if stalled then failMove t z s1 else arrived t z s1
  else s1

/-- A Key Report's payload is taken: five bytes, key 0 to 47, status 0 or 1; any other is discarded whole (R88, R147). -/
def takeKeyReport (t : TowerIdx) (p : List Byte) (s : State) : State :=
  if p.length = 5 then
    match zoneOf (u8 p 0) with
    | none => s
    | some z => if u8 p 4 ≤ 1 then keyReport t z (p.getD 1 0) (u16 p 2) (u8 p 4 == 1) s else s
  else s

/-! ### Sending -/

/-- The Key Command or Sweep Command of a queue entry, addressed to the TDM of its tower (R77, R151). -/
def driveFrame (own : Byte) : DriveEntry → Frame
  | .move t z target tag =>
    ⟨BitVec.ofNat 8 (Config.towerBase + t.val), own, kindKeyCommand, byte1 z.val ++ byte2 target ++ [tag]⟩
  | .sweep t v => ⟨BitVec.ofNat 8 (Config.towerBase + t.val), own, kindSweepCommand, byte2 v⟩

/-- The move timeout as a period in milliseconds: steps of 10 ms (R91). -/
def State.timeoutPeriod (s : State) : Nat := s.motion.timeout * 10

/-- What the sending of an entry starts: the move timer of a MOVE's zone, nothing for a SWEEP (R77, R91). -/
def startTimer (e : DriveEntry) (s : State) : State :=
  match e with
  | .move t z _ _ => s.putZone t z { s.zone t z with timer := some (s.clock + s.timeoutPeriod) }
  | .sweep _ _ => s

/-! ### Move Timeout -/

/-- The expiry of a zone's running move timer, the timer already stopped (R92, R93). -/
def expireMove (t : TowerIdx) (z : ZoneIdx) (s : State) : State :=
  match (s.zone t z).state with
  | .moving =>
    let g := (s.zone t z).commanded
    let s1 := setMotionState t z .retry (s.putZone t z { s.zone t z with tag := (s.zone t z).tag + 1 })
    match g with
    | some k => appendDrive (.move t z k ((s.zone t z).tag + 1)) s1
    | none => s1
  | .retry => failMove t z s
  | .noTarget => s
  | .atTarget => s
  | .pending => s
  | .faulted => s

/-- A Move Timeout: the running timer of a zone expires and is stopped (R91). The time base has then reached its expiry (log
entry 4). Where the timer is stopped the step does not occur (log entry 2). -/
def moveTimeout (t : TowerIdx) (z : ZoneIdx) (s : State) : State :=
  match (s.zone t z).timer with
  | none => s
  | some expiry =>
    expireMove t z ((s.setClock (max s.clock expiry)).putZone t z { s.zone t z with timer := none })

/-- MOVE_TIMEOUT (R91). -/
def execMoveTimeout (t : TowerIdx) (z : ZoneIdx) (s : State) : Host.Outcome State Fault Refusal :=
  .next (moveTimeout t z s)

/-- Whether a zone's move timer is due at the time base. -/
def State.timerDue (s : State) (t : TowerIdx) (z : ZoneIdx) : Bool :=
  match (s.zone t z).timer with
  | some expiry => expiry ≤ s.clock
  | none => false

/-- One millisecond passes with no command waiting: the time base advances and every move timer that is due expires, towers
and zones ascending (log entry 4). -/
def tick (s : State) : State :=
  allPairs.foldl (fun s p => if s.timerDue p.1 p.2 then moveTimeout p.1 p.2 s else s) (s.setClock (s.clock + 1))

end Sys2Proof.Machine
end

