-- ==== Sys2Proof/Machine/Notices.lean ====
section
/-! DEFINITION. Chapter 8, Notices: Set Notice Control, Clear Pending and the notice turn. -/

namespace Sys2Proof.Machine

/-- The kinds in kind-number order. -/
def allKinds : List (Fin 8) := List.finRange 8

/-! ### Set Notice Control -/

/-- The field check of Set Notice Control: each priority 1 to 5, Notices Off a flag; every bit of the enable set stands for a
kind 0 to 7 (R139, R160). -/
def controlOk (p : List Byte) : Bool :=
  (allKinds.all fun k => 1 ≤ u8 p k.val && u8 p k.val ≤ 5) && isFlag (u8 p 9)

/-- The notice controls now in force, as the response carries them (R139, R160). -/
def State.controlBytes (s : State) : List Byte :=
  (allKinds.flatMap fun k => byte1 (look s.notice.priorities k)) ++ byte1 (setNum s.notice.enabled)
    ++ byte1 (flagNum s.notice.off)

/-- Set Notice Control (R139). -/
def setNoticeControl (p : List Byte) (s : State) : Reply :=
  if p.length ≠ 10 then .badLength s
  else if controlOk p then
    let s1 := s.setNotice { s.notice with
      priorities := tab fun k => u8 p k.val
      enabled := tab fun k => (u8 p 8).testBit k.val
      off := u8 p 9 == 1 }
    ⟨s1, .ok, s1.controlBytes ++ byte1 s1.pendingKinds⟩
  else .bare .range s

/-- SET_NOTICE_CONTROL (R139). -/
def execSetNoticeControl (s : State) : Host.Outcome State Fault Refusal :=
  .next (takeRequest .setNoticeControl setNoticeControl s)

/-! ### Clear Pending -/

/-- The kinds a Clear Pending names: one, or all eight for ALL (0xFF); `none` for any other value (R140). -/
def kindsNamed (n : Nat) : Option (List (Fin 8)) :=
  if n = 0xFF then some allKinds
  else if h : n < 8 then some [⟨n, h⟩]
  else none

/-- Clear Pending (R140). -/
def clearPending (p : List Byte) (s : State) : Reply :=
  if p.length ≠ 1 then .badLength s
  else
    match kindsNamed (u8 p 0) with
    | none => .bare .range s
    | some ks =>
      let s1 := s.setNotice { s.notice with
        records := tab fun k => if k ∈ ks then none else look s.notice.records k }
      let removed := ks.filter fun k => (look s.notice.records k).isSome
      ⟨s1, .ok, byte1 removed.length ++ byte1 s1.pendingKinds⟩

/-- CLEAR_PENDING (R140). -/
def execClearPending (s : State) : Host.Outcome State Fault Refusal :=
  .next (takeRequest .clearPending clearPending s)

/-! ### The notice turn -/

/-- The Notice frame of a record (R138, layout of section 9.10). -/
def noticeFrame (own : Byte) (k : Fin 8) (r : NoticeRecord) : Frame :=
  ⟨Config.console, own, kindNotice,
    byte1 k.val ++ byte2 (setNum r.towers) ++ byte1 r.count ++ r.detail.bytes ++ byte4 r.firstSheet⟩

/-- The notice turn (R137): the chosen kind's frame is formed, its record removed and the frame taken by the Port U
transmitter; with no kind sendable the transmitter stays idle. -/
def noticeTurn (s : State) : State :=
  match bestKind s allKinds with
  | none => s.setLink { s.link with uTransmit := none }
  | some k =>
    match look s.notice.records k with
    | none => s.setLink { s.link with uTransmit := none }
    | some r =>
      (s.setNotice { s.notice with records := put s.notice.records k none }).setLink
        { s.link with uTransmit := some (noticeFrame s.link.ownAddress k r) }

end Sys2Proof.Machine
end

