-- ==== Sys2Proof/Machine/ZoneLink.lean ====
section
/-! DEFINITION. Chapter 9, The Zone Link: frames received on Ports U, D and M, the transmit arbiters, Read Zone, Read Tower,
Read Status and requests of unknown kind. -/

namespace Sys2Proof.Machine

/-! ### Arrival and routing -/

/-- A frame dropped at a full queue raises OVERRUN with the port of arrival and the queue (R149). -/
def overrun (p : Port) (q : FrameQueue) (s : State) : State := raise .overrun none (.queue p q) s

/-- Place a request in the U Receive Queue, or drop it (R146, R149). -/
def placeRequest (f : Frame) (s : State) : State :=
  if s.link.uReceive.length < Config.uReceiveCap then
    s.setLink { s.link with uReceive := s.link.uReceive ++ [f] }
  else overrun .u .uReceive s

/-- Place a frame in the Down Forward Queue, or drop it (R146, R149). -/
def placeDown (f : Frame) (s : State) : State :=
  if s.link.downForward.length < Config.downForwardCap then
    s.setLink { s.link with downForward := s.link.downForward ++ [f] }
  else overrun .u .downForward s

/-- Place a frame in the Up Forward Queue, or drop it (R147, R149). -/
def placeUp (f : Frame) (s : State) : State :=
  if s.link.upForward.length < Config.upForwardCap then
    s.setLink { s.link with upForward := s.link.upForward ++ [f] }
  else overrun .d .upForward s

/-- Place a Density frame with its Arrival Sheet Count in the M Receive Queue, or drop it (R148, R149). -/
def placeDensity (f : Frame) (s : State) : State :=
  if s.link.mReceive.length < Config.mReceiveCap then
    s.setLink { s.link with mReceive := s.link.mReceive ++ [(f, s.cycle.sheetCount)] }
  else overrun .m .mReceive s

/-- A run of bytes received complete on a port: discarded with LINK_ERROR (R144), or routed as the port's rule gives. While
RESET is held active frames are ignored (R159). -/
def receive (p : Port) (route : Frame → State → State) (bytes : List Byte) (s : State) : State :=
  if s.link.resetHeld then s
  else
    match parseFrame bytes with
    | none => raise .linkError none (.port p) s
    | some f => route f s

/-- Routing on Port U by destination (table of R146). DESIGN CHOICE: of a broadcast that finds both its queues full, the U
Receive Queue's OVERRUN is raised first and so gives a new record its first detail; R135, R146 and R149 name no order (log
entry 21). -/
def routeU (f : Frame) (s : State) : State :=
  if f.dst = s.link.ownAddress then placeRequest f s
  else if f.isBroadcast then placeDown f (placeRequest f s)
  else placeDown f s

/-- The tower whose TDM has an address: 0x10 to 0x1B (R145). -/
def towerOfAddress (a : Byte) : Option TowerIdx :=
  if Config.towerBase ≤ a.toNat then towerOf (a.toNat - Config.towerBase) else none

/-- Routing on Port D, the first case that fits deciding (R147). -/
def routeD (f : Frame) (s : State) : State :=
  match (if f.kind = kindKeyReport then towerOfAddress f.src else none) with
  | some t => takeKeyReport t f.payload s
  | none => if f.dst = s.link.ownAddress ∨ f.isBroadcast then s else placeUp f s

/-- Routing on Port M by kind (R148). -/
def routeM (f : Frame) (s : State) : State := if f.kind = kindDensity then placeDensity f s else s

/-- PORT_U_FRAME_RECEIVED (R146). -/
def execPortUFrameReceived (bytes : List Byte) (s : State) : Host.Outcome State Fault Refusal :=
  .next (receive .u routeU bytes s)

/-- PORT_D_FRAME_RECEIVED (R147). -/
def execPortDFrameReceived (bytes : List Byte) (s : State) : Host.Outcome State Fault Refusal :=
  .next (receive .d routeD bytes s)

/-- PORT_M_FRAME_RECEIVED (R148). -/
def execPortMFrameReceived (bytes : List Byte) (s : State) : Host.Outcome State Fault Refusal :=
  .next (receive .m routeM bytes s)

/-! ### Transmission -/

/-- The Port U transmit arbiter (R150): the oldest response, else the oldest forwarded frame, else the notice turn. The
command stands for the moment at which the transmitter is free, so an earlier frame has been sent whole (log entry 5). -/
def arbitrateU (s : State) : State :=
  match s.link.responses with
  | f :: rest => s.setLink { s.link with responses := rest, uTransmit := some f }
  | [] =>
    match s.link.upForward with
    | f :: rest => s.setLink { s.link with upForward := rest, uTransmit := some f }
    | [] => noticeTurn s

/-- PORT_U_TRANSMIT_ARBITER (R150). -/
def execPortUTransmitArbiter (s : State) : Host.Outcome State Fault Refusal := .next (arbitrateU s)

/-- The sending of the oldest entry of the Drive Command Queue (R77): it leaves the queue, its frame is taken by the Port D
transmitter, and a MOVE starts its zone's timer. -/
def sendDrive (e : DriveEntry) (rest : List DriveEntry) (s : State) : State :=
  startTimer e ((s.setMotion { s.motion with queue := rest }).setLink
    { s.link with dTransmit := some (driveFrame s.link.ownAddress e) })

/-- The Port D transmit arbiter (R77, R151): the Drive Command Queue ahead of the Down Forward Queue. -/
def arbitrateD (s : State) : State :=
  match s.motion.queue with
  | e :: rest => sendDrive e rest s
  | [] =>
    match s.link.downForward with
    | f :: rest => s.setLink { s.link with downForward := rest, dTransmit := some f }
    | [] => s.setLink { s.link with dTransmit := none }

/-- PORT_D_TRANSMIT_ARBITER (R151). -/
def execPortDTransmitArbiter (s : State) : Host.Outcome State Fault Refusal := .next (arbitrateD s)

/-! ### Unknown kinds -/

/-- A request whose kind is not a request kind is answered UNKNOWN and has no effect; a broadcast one is ignored (R153). -/
def unknownRequest (s : State) : State :=
  match headRequest s with
  | none => s
  | some (f, s1) => if isRequestKind f.kind then s else answer f .unknown [] s1

/-- UNKNOWN_REQUEST_KIND (R153). -/
def execUnknownRequestKind (s : State) : Host.Outcome State Fault Refusal := .next (unknownRequest s)

/-! ### Read Zone -/

/-- A record's coverage value of a zone, absent without a coverage array or at or beyond its Z (R155). -/
def TowerSettings.coverageAt (r : TowerSettings) (z : ZoneIdx) : Option Nat := (r.coverage.getD [])[z.val]?

/-- A record's offset of a zone, absent without a zone map or at or beyond its Z (R155). -/
def TowerSettings.offsetAt (r : TowerSettings) (z : ZoneIdx) : Option Int :=
  if r.zoneMap.isSome then r.offsets[z.val]? else none

/-- Byte 0 of a Zone Report entry (section 9.10). -/
def State.reportFlags (s : State) (j : SlotIdx) (t : TowerIdx) (z : ZoneIdx) : Nat :=
  (s.zone t z).state.num + 8 * flagNum ((s.zone t z).state == .faulted) + 16 * flagNum (look s.trim.saturated t)
    + 32 * flagNum (s.zone t z).actual.isSome + 64 * flagNum (s.targetOf t z).isSome
    + 128 * flagNum ((s.record j t).coverageAt z).isSome

/-- A Zone Report entry of 14 bytes (R155, section 9.10); an absent value is carried as 0. -/
def State.zoneReport (s : State) (j : SlotIdx) (t : TowerIdx) (z : ZoneIdx) : List Byte :=
  let r := s.record j t
  let g := (s.targetOf t z).getD ⟨0, 0, 0⟩
  let x := s.trimOf t z
  byte1 (s.reportFlags j t z)
    ++ byte1 (flagNum (r.offsetAt z).isSome + 2 * flagNum x.lastAverage.isSome)
    ++ pack12 ((r.coverageAt z).getD 0) (twos12 ((r.offsetAt z).getD 0))
    ++ pack12 g.e g.b
    ++ pack12 (twos12 x.trim) g.k
    ++ pack12 ((s.zone t z).actual.getD 0) (x.lastAverage.getD 0)

/-- Read Zone (R155). -/
def readZone (p : List Byte) (s : State) : ResultCode × List Byte :=
  if p.length ≠ 4 then (.range, [])
  else
    match slotOf (u8 p 0), towerOf (u8 p 1) with
    | some j, some t =>
      let first := u8 p 2
      let n := u8 p 3
      if first ≤ 47 ∧ 1 ≤ n ∧ n ≤ 16 ∧ first + n ≤ 48 then
        (.ok, byte1 j.val ++ byte1 t.val ++ byte1 first ++ byte1 n
          ++ (allZones.filter fun z => first ≤ z.val && z.val < first + n).flatMap fun z => s.zoneReport j t z)
      else (.range, [])
    | _, _ => (.range, [])

/-- READ_ZONE (R155). -/
def execReadZone (s : State) : Host.Outcome State Fault Refusal := .next (takeRead .readZone readZone s)

/-! ### Read Tower -/

/-- A Read Tower entry of 10 bytes (R156, R160). -/
def State.towerReport (s : State) (t : TowerIdx) : List Byte :=
  byte1 t.val ++ byte1 (s.record 0 t).strip.num ++ byte1 (s.record 1 t).strip.num
    ++ byte1 (s.pass t).state.num ++ byte1 (s.pass t).cursor
    ++ byte1 (look s.motion.inFlight t) ++ byte1 (s.effective t) ++ opt2 (s.pass t).sweep
    ++ byte1 (flagNum (look s.trim.armed t) + 2 * flagNum (look s.trim.saturated t))

/-- Read Tower (R156): one entry for the named tower, twelve in tower order for ALL. -/
def readTower (p : List Byte) (s : State) : ResultCode × List Byte :=
  if p.length ≠ 1 then (.range, [])
  else if u8 p 0 = 0xFF then (.ok, byte1 12 ++ allTowers.flatMap fun t => s.towerReport t)
  else
    match towerOf (u8 p 0) with
    | none => (.range, [])
    | some t => (.ok, byte1 1 ++ s.towerReport t)

/-- READ_TOWER (R156). -/
def execReadTower (s : State) : Host.Outcome State Fault Refusal := .next (takeRead .readTower readTower s)

/-! ### Read Status -/

/-- Read Status (R157, R160). DEDUCED to carry no job label: a sentence of R28 says that Read Status reports it, but a response
carries the fields its own rule names (R154), and neither R157 nor the layout of R160 names one (log entry 22). -/
def readStatus (p : List Byte) (s : State) : ResultCode × List Byte :=
  if p.length ≠ 0 then (.range, [])
  else
    (.ok, byte2 Config.partCode ++ byte1 Config.revision ++ [s.link.ownAddress] ++ byte1 s.cycle.phase.num
      ++ byte4 s.cycle.sheetCount ++ s.slotStates ++ opt1 (s.cycle.armed.map fun a => a.slot.val)
      ++ byte1 (flagNum s.motion.restricted) ++ byte1 s.buffersBound ++ byte1 s.pendingKinds
      ++ byte1 (flagNum s.notice.off) ++ byte1 (flagNum s.held))

/-- READ_STATUS (R157). -/
def execReadStatus (s : State) : Host.Outcome State Fault Refusal := .next (takeRead .readStatus readStatus s)

end Sys2Proof.Machine
end

