-- ==== Sys2Proof/Machine/Dispatch.lean ====
section
/-! DEFINITION. One arm per command, each one call of its meaning. -/

namespace Sys2Proof.Machine

def exec (i : Instr) (s : State) : Host.Outcome State Fault Refusal :=
  match i with
  | .loadCurve => Sys2Proof.Machine.execLoadCurve s
  | .eraseCurve => Sys2Proof.Machine.execEraseCurve s
  | .readCurve => Sys2Proof.Machine.execReadCurve s
  | .setJobLabel => Sys2Proof.Machine.execSetJobLabel s
  | .configureTower => Sys2Proof.Machine.execConfigureTower s
  | .setTargets => Sys2Proof.Machine.execSetTargets s
  | .loadZoneMap => Sys2Proof.Machine.execLoadZoneMap s
  | .setOffsets => Sys2Proof.Machine.execSetOffsets s
  | .clearJob => Sys2Proof.Machine.execClearJob s
  | .readSettings => Sys2Proof.Machine.execReadSettings s
  | .stripOpen => Sys2Proof.Machine.execStripOpen s
  | .stripSegment => Sys2Proof.Machine.execStripSegment s
  | .stripClose => Sys2Proof.Machine.execStripClose s
  | .zoneComputation t => Sys2Proof.Machine.execZoneComputation t s
  | .setMotionLimits => Sys2Proof.Machine.execSetMotionLimits s
  | .clearKeyFault => Sys2Proof.Machine.execClearKeyFault s
  | .moveTimeout t z => Sys2Proof.Machine.execMoveTimeout t z s
  | .densityFrameTaken => Sys2Proof.Machine.execDensityFrameTaken s
  | .armTrim => Sys2Proof.Machine.execArmTrim s
  | .clearTrim => Sys2Proof.Machine.execClearTrim s
  | .loadTrimBands => Sys2Proof.Machine.execLoadTrimBands s
  | .pressPhase => Sys2Proof.Machine.execPressPhase s
  | .changeover => Sys2Proof.Machine.execChangeover s
  | .cancelChangeover => Sys2Proof.Machine.execCancelChangeover s
  | .sheetMark => Sys2Proof.Machine.execSheetMark s
  | .setNoticeControl => Sys2Proof.Machine.execSetNoticeControl s
  | .clearPending => Sys2Proof.Machine.execClearPending s
  | .readZone => Sys2Proof.Machine.execReadZone s
  | .readTower => Sys2Proof.Machine.execReadTower s
  | .readStatus => Sys2Proof.Machine.execReadStatus s
  | .bridgeReset => Sys2Proof.Machine.execBridgeReset s
  | .unknownRequestKind => Sys2Proof.Machine.execUnknownRequestKind s
  | .portUFrameReceived bytes => Sys2Proof.Machine.execPortUFrameReceived bytes s
  | .portDFrameReceived bytes => Sys2Proof.Machine.execPortDFrameReceived bytes s
  | .portMFrameReceived bytes => Sys2Proof.Machine.execPortMFrameReceived bytes s
  | .portUTransmitArbiter => Sys2Proof.Machine.execPortUTransmitArbiter s
  | .portDTransmitArbiter => Sys2Proof.Machine.execPortDTransmitArbiter s
  | .powerOnReset => Sys2Proof.Machine.execPowerOnReset s
  | .resetRelease straps => Sys2Proof.Machine.execResetRelease straps s

end Sys2Proof.Machine
end

