-- ==== Sys2Proof/Safety.lean ====
section
/-! DEFINITION. The terms the statements use: what a step leaves unchanged, when a request waits and how it is answered, and
the invariants the manual's rules give the machine. -/

namespace Sys2Proof.Machine

/-! ### What a step leaves unchanged -/

/-- The parts of the state: the Controller's blocks, the time base, and the model's two fields. -/
inductive Block where
  | library
  | jobs
  | buffers
  | engine
  | motion
  | trim
  | cycle
  | notice
  | link
  | clock
  | freeCount
  | pending
  deriving DecidableEq, Repr

/-- A block of `t` is that of `s`. -/
def Block.same (s t : State) : Block → Prop
  | .library => t.library = s.library
  | .jobs => t.jobs = s.jobs
  | .buffers => t.buffers = s.buffers
  | .engine => t.engine = s.engine
  | .motion => t.motion = s.motion
  | .trim => t.trim = s.trim
  | .cycle => t.cycle = s.cycle
  | .notice => t.notice = s.notice
  | .link => t.link = s.link
  | .clock => t.clock = s.clock
  | .freeCount => t.freeCount = s.freeCount
  | .pending => t.pending = s.pending

/-- Every block that is not listed is in `t` what it was in `s`. -/
def OnlyChanges (bs : List Block) (s t : State) : Prop := ∀ b : Block, b ∉ bs → b.same s t

/-! ### Requests and responses (R152, R154) -/

/-- The request `f` of a kind stands at the head of the U Receive Queue, `rest` behind it, and may be taken: the Response
Queue holds fewer than 4 frames (R152). -/
def Waits (s : State) (k : RequestKind) (f : Frame) (rest : List Frame) : Prop :=
  s.link.uReceive = f :: rest ∧ s.link.responses.length < 4 ∧ f.kind = k.code

/-- The Response Queue after a request was answered with a code and fields: one frame more at its tail, addressed to the
request's source, from the own address, and none more where the request was a broadcast (R153, R154). -/
def responsesAfter (s : State) (f : Frame) (code : Nat) (fields : List Byte) : List Frame :=
  if f.dst = 0x38 then s.link.responses
  else s.link.responses ++ [⟨f.src, s.link.ownAddress, 0x60, [f.kind, BitVec.ofNat 8 code] ++ fields⟩]

/-- In the Link Controller the request has left the U Receive Queue and been answered, and nothing else has changed. -/
def Answered (s : State) (f : Frame) (rest : List Frame) (code : Nat) (fields : List Byte) (t : State) : Prop :=
  t.link = { s.link with uReceive := rest, responses := responsesAfter s f code fields }

/-- The commands that take a request from the U Receive Queue, with the request kind each takes. -/
def requestCommands : List (Instr × RequestKind) :=
  [(.loadCurve, .loadCurve), (.eraseCurve, .eraseCurve), (.readCurve, .readCurve), (.setJobLabel, .setJobLabel),
   (.configureTower, .configureTower), (.setTargets, .setTargets), (.loadZoneMap, .loadZoneMap),
   (.setOffsets, .setOffsets), (.clearJob, .clearJob), (.readSettings, .readSettings), (.stripOpen, .stripOpen),
   (.stripSegment, .stripSegment), (.stripClose, .stripClose), (.setMotionLimits, .setMotionLimits),
   (.clearKeyFault, .clearKeyFault), (.armTrim, .armTrim), (.clearTrim, .clearTrim), (.loadTrimBands, .loadTrimBands),
   (.pressPhase, .pressPhase), (.changeover, .changeover), (.cancelChangeover, .cancelChangeover),
   (.setNoticeControl, .setNoticeControl), (.clearPending, .clearPending), (.readZone, .readZone),
   (.readTower, .readTower), (.readStatus, .readStatus), (.bridgeReset, .bridgeReset)]

/-- The payload lengths of the request kinds whose payload is fixed (R160). -/
def fixedLength : RequestKind → Option Nat
  | .loadCurve => none
  | .eraseCurve => some 1
  | .readCurve => some 1
  | .setJobLabel => none
  | .configureTower => some 13
  | .setTargets => some 13
  | .loadZoneMap => some 7
  | .setOffsets => none
  | .clearJob => some 1
  | .readSettings => some 2
  | .stripOpen => some 5
  | .stripSegment => none
  | .stripClose => some 2
  | .setMotionLimits => some 14
  | .clearKeyFault => some 2
  | .armTrim => some 2
  | .clearTrim => some 1
  | .loadTrimBands => some 21
  | .pressPhase => some 1
  | .changeover => some 2
  | .cancelChangeover => some 0
  | .setNoticeControl => some 10
  | .clearPending => some 1
  | .readZone => some 4
  | .readTower => some 1
  | .readStatus => some 0
  | .bridgeReset => some 0

/-- The fields of R18 in an answer to a load request for job slot `j` and tower `u`, read from the state `t`: job slot, both
slot states, tower, ready indication. -/
def loadAnswer (j : SlotIdx) (u : TowerIdx) (t : State) : List Byte :=
  byte1 j.val ++ byte1 (look t.jobs 0).num ++ byte1 (look t.jobs 1).num ++ byte1 u.val
    ++ byte1 (flagNum (look (look t.jobs j).job.ready u))

/-- Tower `u` of `towers` is enabled and not ready by the conditions of R20 over a library. -/
def heldBack (lib : Library) (towers : Vector TowerSettings 12) (u : TowerIdx) : Prop :=
  (look towers u).enabled = true ∧ towerReady lib (look towers u) = false

/-- Slot `j` of `t` holds a job with this label and these records, every ready indication that of R20, its state RUNNING where
it was RUNNING in `s` and else READY or LOADING as R21 gives; the other slot is that of `s`. -/
def JobWritten (s t : State) (j : SlotIdx) (label : Option (List Byte)) (towers : Vector TowerSettings 12) : Prop :=
  (∃ role job, look t.jobs j = .held role job ∧ job.label = label ∧ job.towers = towers
      ∧ (∀ u, look job.ready u = towerReady s.library (look towers u))
      ∧ (s.isRunning j = true → role = .running)
      ∧ (s.isRunning j = false →
          (((∃ u, (look towers u).enabled = true) ∧ ∀ u, ¬ heldBack s.library towers u) → role = .ready)
          ∧ (((∀ u, (look towers u).enabled = false) ∨ ∃ u, heldBack s.library towers u) → role = .loading)))
    ∧ ∀ i, i ≠ j → look t.jobs i = look s.jobs i

/-- The records of slot `j` with that of tower `u` replaced. -/
def State.withRecord (s : State) (j : SlotIdx) (u : TowerIdx) (r : TowerSettings) : Vector TowerSettings 12 :=
  put (look s.jobs j).job.towers u r

/-- Slot `j`, EMPTY or not, is not ARMED and not RUNNING. -/
def State.preparing (s : State) (j : SlotIdx) : Prop :=
  (look s.jobs j).inRole .armed = false ∧ (look s.jobs j).inRole .running = false

/-- What a Pass Cause makes of a Tower Pass record (table of R54); `mean` is the pass mean a new pass would take (R55, R60). -/
def TowerPass.caused (p : TowerPass) (ready : Bool) (mean : Option Nat) : TowerPass :=
  if p.state = .active then { p with rerun := true }
  else if ready then { p with state := .active, cursor := 0, rerun := false, mean := mean }
  else p

/-- The state of a slot with a job after a Library Change of curve slot `c` (R6): with the towers that are enabled and name
`c` re-evaluated, READY or LOADING as the indications then say. -/
def JobReevaluated (lib : Library) (c : CurveIdx) (old : Job) (x : JobSlot) : Prop :=
  ∃ role job, x = .held role job ∧ job.label = old.label ∧ job.towers = old.towers
    ∧ (∀ u, look job.ready u =
        if (look old.towers u).enabled ∧ (look old.towers u).names c then towerReady lib (look old.towers u)
        else look old.ready u)
    ∧ (((∃ u, (look old.towers u).enabled = true)
          ∧ ∀ u, (look old.towers u).enabled = true → look job.ready u = true) → role = .ready)
    ∧ (((∀ u, (look old.towers u).enabled = false)
          ∨ ∃ u, (look old.towers u).enabled = true ∧ look job.ready u = false) → role = .loading)

/-- The Job Slots of `t` are those of `s` after a Library Change of curve slot `c` (R6): a LOADING or READY slot with an enabled
tower that names `c` is re-evaluated against the library of `t`, any other slot is as it was. -/
def LibraryChanged (c : CurveIdx) (s t : State) : Prop :=
  ∀ j,
    (∀ role job, look s.jobs j = .held role job → (role = .loading ∨ role = .ready) →
        (∃ u, (look job.towers u).enabled = true ∧ (look job.towers u).names c = true) →
        JobReevaluated t.library c job (look t.jobs j))
    ∧ ((look s.jobs j = .empty ∨ (∃ job, look s.jobs j = .held .armed job) ∨ (∃ job, look s.jobs j = .held .running job)
          ∨ (∀ u, ¬ ((look (look s.jobs j).job.towers u).enabled = true
              ∧ (look (look s.jobs j).job.towers u).names c = true))) →
        look t.jobs j = look s.jobs j)

/-- Whether an entry of the Drive Command Queue is a SWEEP. -/
def DriveEntry.isSweep : DriveEntry → Bool
  | .move _ _ _ _ => false
  | .sweep _ _ => true

/-- No Dispatch Scan could start a move: the press-wide count has reached the Motion Cap or no tower is eligible (R80). -/
def ScanExhausted (s : State) : Prop := s.motion.cap ≤ s.motion.pressInFlight ∨ ∀ t, s.eligible t = false

/-- What a Dispatch Scan leaves of a zone: it is as it was, or it was PENDING and has been started with its Key Target (R81). -/
def StartedOrSame (s t : State) (u : TowerIdx) (z : ZoneIdx) : Prop :=
  t.zone u z = s.zone u z
    ∨ ((s.zone u z).state = .pending ∧ ∃ g, s.targetOf u z = some g ∧
        t.zone u z = { s.zone u z with
          state := .moving, commanded := some g.k, tag := (s.zone u z).tag + 1 })

/-- E, B and K of a zone have been written as `g`, its K has been handed to the Motion Scheduler by the table of R74, and where
that made the zone PENDING the Dispatch Scan of R80 has been made, which may have started it. -/
def HandedOn (s t : State) (u : TowerIdx) (z : ZoneIdx) (g : Target) : Prop :=
  let handed := handTarget u z g.k (s.putTarget u z (some g))
  t.targetOf u z = some g ∧ StartedOrSame handed t u z
    ∧ ((s.zone u z).state ≠ .pending → (handed.zone u z).state = .pending → ScanExhausted t)

/-- The Settle Watch test of tower `u` on the motion states that `t` holds, with the watch and the SETTLED record of `s` before it
(R96): a set watch is cleared and SETTLED raised with the tower where no zone of it is in PENDING, MOVING or RETRY, and
else every watch and that record stay. The Dispatch Scan does not matter to it: it makes a PENDING zone MOVING. -/
def SettleTested (s t : State) (u : TowerIdx) : Prop :=
  let settled := look s.motion.watch u = true
    ∧ ∀ z, (t.zone u z).state = .noTarget ∨ (t.zone u z).state = .atTarget ∨ (t.zone u z).state = .faulted
  (settled → t.motion.watch = put s.motion.watch u false
      ∧ look t.notice.records 7 = some (mergeNotice (look s.notice.records 7) (some u) (.tower u) s.cycle.sheetCount))
    ∧ (¬ settled → t.motion.watch = s.motion.watch ∧ look t.notice.records 7 = look s.notice.records 7)

/-- Step 1 of R23 for one zone, with the new record written in `s`: where the new key maximum is below the old and below the
zone's K, that K becomes the new maximum and is handed on (R74). -/
def State.afterClamp (s : State) (u : TowerIdx) (z : ZoneIdx) (old new : Nat) : State :=
  match s.targetOf u z with
  | none => s
  | some g =>
    if new < old ∧ new < g.k then handTarget u z new (s.putTarget u z (some { g with k := new })) else s

/-- Restricted Motion of `t` is a re-evaluation of that of `s` over these enabled towers: it holds while their concurrencies
exceed the Motion Cap, and MOTION_RESTRICTED is raised where it did not hold before (R82). -/
def Reevaluated (s t : State) (enabled : TowerIdx → Bool) : Prop :=
  let exceeds := s.motion.cap < (allTowers.map fun u => if enabled u then look s.motion.concurrency u else 0).sum
  (t.motion.restricted = true ↔ exceeds)
    ∧ ((exceeds ∧ s.motion.restricted = false) →
        look t.notice.records 2 = some (mergeNotice (look s.notice.records 2) none .absent s.cycle.sheetCount))
    ∧ (¬ (exceeds ∧ s.motion.restricted = false) → look t.notice.records 2 = look s.notice.records 2)

/-- The Motion Cap, the move timeout and the concurrencies are those of `s`. -/
def SameLimits (s t : State) : Prop :=
  t.motion.cap = s.motion.cap ∧ t.motion.timeout = s.motion.timeout ∧ t.motion.concurrency = s.motion.concurrency

/-! ### Invariants -/

/-- Every LOADED curve satisfies the conditions of R2. -/
def CurvesValid (s : State) : Prop := ∀ c cv, look s.library c = some cv → cv.valid = true

/-- No frame queue holds more frames than its capacity (R149). -/
def QueuesWithinCapacity (s : State) : Prop :=
  s.link.uReceive.length ≤ 8 ∧ s.link.responses.length ≤ 4 ∧ s.link.upForward.length ≤ 16
    ∧ s.link.downForward.length ≤ 16 ∧ s.link.mReceive.length ≤ 4

/-- The two Job Slots are never both RUNNING, and the armed slot is present exactly while a slot is ARMED, and names it, so
that they are never both ARMED (R15, R120). -/
def JobRolesConsistent (s : State) : Prop :=
  ¬((look s.jobs 0).inRole .running = true ∧ (look s.jobs 1).inRole .running = true)
    ∧ ∀ j, (look s.jobs j).inRole .armed = true ↔ s.cycle.armed.map ArmedChangeover.slot = some j

/-- The motion fields of every zone agree with its motion state (R73): the commanded target is present exactly in MOVING and
RETRY, K is defined in AT_TARGET and PENDING and absent in NO_TARGET. -/
def MotionConsistent (s : State) : Prop :=
  ∀ t z,
    ((s.zone t z).commanded.isSome ↔ (s.zone t z).state = .moving ∨ (s.zone t z).state = .retry)
    ∧ ((s.zone t z).state = .atTarget ∨ (s.zone t z).state = .pending → (s.targetOf t z).isSome)
    ∧ ((s.zone t z).state = .noTarget → s.targetOf t z = none)

/-- Every defined Key Target lies within its tower's key maximum in the running job (R59). -/
def TargetsWithinMaximum (s : State) : Prop := ∀ t z g, s.targetOf t z = some g → g.k ≤ (s.tower t).keyMax

/-- Every trim lies within plus or minus the trim limit of its tower in the running job, and is 0 where no job is RUNNING, where
the tower is disabled and at or beyond its zone count (R100, R24, R117). -/
def TrimsWithinLimit (s : State) : Prop :=
  ∀ t z,
    |(s.trimOf t z).trim| ≤ (s.tower t).trimLimit
    ∧ ((s.runningSlot = none ∨ (s.tower t).enabled = false ∨ ∀ m, (s.tower t).zoneMap = some m → m.zones ≤ z.val) →
        (s.trimOf t z).trim = 0)

/-- The number of a tower's zones in MOVING or RETRY. -/
def State.moving (s : State) (t : TowerIdx) : Nat :=
  (allZones.filter fun z => (s.zone t z).state.inFlight).length

/-- The in-flight counts are the numbers of zones in MOVING or RETRY, per tower and press-wide (R78). -/
def CountsExact (s : State) : Prop :=
  (∀ t, look s.motion.inFlight t = s.moving t) ∧ s.motion.pressInFlight = (allTowers.map s.moving).sum

/-- The Drive Command Queue agrees with the zones (R76): at most one MOVE for a zone, and that for a zone in MOVING or RETRY, with
its outstanding tag and its commanded target, its move timer stopped; at most one SWEEP for a tower, its value at most 1000. A
move timer runs only in MOVING and RETRY (R91). -/
def DriveQueueConsistent (s : State) : Prop :=
  (∀ t z, (s.motion.queue.filter (DriveEntry.isMoveOf t z)).length ≤ 1)
    ∧ (∀ t z g tag, DriveEntry.move t z g tag ∈ s.motion.queue →
        ((s.zone t z).state = .moving ∨ (s.zone t z).state = .retry)
        ∧ (s.zone t z).tag = tag ∧ (s.zone t z).commanded = some g ∧ (s.zone t z).timer = none)
    ∧ (∀ t, (s.motion.queue.filter (DriveEntry.isSweepOf t)).length ≤ 1)
    ∧ (∀ t v, DriveEntry.sweep t v ∈ s.motion.queue → v ≤ 1000)
    ∧ ∀ t z, (s.zone t z).timer ≠ none → (s.zone t z).state = .moving ∨ (s.zone t z).state = .retry

/-- The received values of a buffer over zone `z`: for each strip index received, the sixteenths its column has in the zone. -/
def Buffer.covered (b : Buffer) (m : ZoneMap) (z : Nat) : Nat :=
  ((List.range b.length).map fun i => if b.received.getD i false then overlap m (b.column i) z else 0).sum

/-- The Strip Assembly Buffers agree with the Job Slots (R34, R35): a bound buffer belongs to an OPEN strip, integrates against
its zone map, one accumulator per zone, each at most 1000 times the sixteenths received of the zone (R45), and counts what it
has received; an OPEN strip has exactly one buffer; every coverage value of a job is at most 1000 (R46), and every zone map lies
in the ranges of R26. -/
def StripsConsistent (s : State) : Prop :=
  (∀ i b, look s.buffers i = some b → ∃ m,
      (s.record b.slot b.tower).strip = .opened ∧ (s.record b.slot b.tower).zoneMap = some m
      ∧ b.acc.length = m.zones ∧ b.length ≤ 2048 ∧ b.received.length = b.length
      ∧ b.receivedCount = (b.received.filter id).length ∧ b.clampedCount ≤ b.receivedCount
      ∧ ∀ z, z < m.zones → b.acc.getD z 0 ≤ 1000 * b.covered m z)
    ∧ (∀ j u, (s.record j u).strip = .opened → ∃ i b, look s.buffers i = some b ∧ b.slot = j ∧ b.tower = u)
    ∧ (∀ i k b c, look s.buffers i = some b → look s.buffers k = some c → b.slot = c.slot → b.tower = c.tower → i = k)
    ∧ (∀ j u c, (s.record j u).coverage = some c → ∀ v ∈ c, v ≤ 1000)
    ∧ ∀ j u m, (s.record j u).zoneMap = some m →
        8 ≤ m.zones ∧ m.zones ≤ 48 ∧ 16 ≤ m.width ∧ m.width ≤ 4096 ∧ m.edge + m.zones * m.width ≤ 32768

/-- The machine answers a next state: it stops neither with a fault nor with a refusal. -/
def NeverStops (s : State) : Prop := ∃ t, step s = .next t

end Sys2Proof.Machine
end

