-- ==== Sys2Proof/Certificates/Slice0/Obligations.lean ====
section
/-! DEFINITION. The statements for the provers, chapter by chapter from the numbered rules of spec/. -/

open Sys2Proof Sys2Proof.Machine

/-! ### The step -/

/-- Every step takes the command at the front of the queue and is its effect on the state with the queue's rest, and every step
answers a next state. -/
def Obligations.StepRunsFrontCommand : Prop :=
  (∀ (c : Instr) (rest : List Instr) (s : State), step (s.setPending (c :: rest)) = exec c (s.setPending rest))
    ∧ ∀ s : State, NeverStops s

/-- The model's choice (log entry 4): with no command waiting a step is one millisecond of the time base; after it no move
timer stands at or before the time base, and where none was due nothing else has changed. -/
def Obligations.EmptyQueueIsOneMillisecond : Prop :=
  ∀ s : State, s.pending = [] →
    ∃ t, step s = .next t ∧ t.clock = s.clock + 1
      ∧ (∀ u z e, (t.zone u z).timer = some e → t.clock < e)
      ∧ ((∀ u z e, (s.zone u z).timer = some e → s.clock + 1 < e) → t = s.setClock (s.clock + 1))

/-! ### Frames on the line (R143, R144) -/

/-- The bytes of a frame are received as that frame, and a received run of bytes that is a good frame is, sent again, the same
run of bytes (R143). -/
def Obligations.FramesReadBack : Prop :=
  (∀ f : Frame, f.payload.length ≤ 240 → parseFrame f.bytes = some f)
    ∧ ∀ bytes f, parseFrame bytes = some f → f.bytes = bytes ∧ f.payload.length ≤ 240

/-- R144: a run of bytes that is short, mis-sized or fails its check is discarded with LINK_ERROR on any port, and any other is
routed by the rule of its port. -/
def Obligations.DamagedFramesAreDiscarded : Prop :=
  ∀ (s : State) (bytes : List Byte), s.link.resetHeld = false →
    let damaged := bytes.length < 6
      ∨ 240 < (bytes.getD 3 0).toNat ∨ bytes.length ≠ (bytes.getD 3 0).toNat + 6
      ∨ bytes.drop (bytes.length - 2) ≠ checkBytes (bytes.take (bytes.length - 2))
    let good : Frame :=
      ⟨bytes.getD 0 0, bytes.getD 1 0, bytes.getD 2 0, (bytes.drop 4).take (bytes.length - 6)⟩
    (damaged →
      exec (.portUFrameReceived bytes) s = .next (raise .linkError none (.port .u) s)
      ∧ exec (.portDFrameReceived bytes) s = .next (raise .linkError none (.port .d) s)
      ∧ exec (.portMFrameReceived bytes) s = .next (raise .linkError none (.port .m) s))
    ∧ (¬ damaged →
      exec (.portUFrameReceived bytes) s = .next (routeU good s)
      ∧ exec (.portDFrameReceived bytes) s = .next (routeD good s)
      ∧ exec (.portMFrameReceived bytes) s = .next (routeM good s))

/-- R146, R149: a good frame on Port U goes to the U Receive Queue, the Down Forward Queue, or both; a full queue drops its copy and
raises OVERRUN with Port U and the queue. That the U Receive Queue's OVERRUN comes first where a broadcast finds both full is
the model's choice (log entry 21). -/
def Obligations.PortURoutesByDestination : Prop :=
  ∀ (s : State) (f : Frame), s.link.resetHeld = false → s.link.ownAddress ≠ 0x38 → f.payload.length ≤ 240 →
    let toReceive := f.dst = s.link.ownAddress ∨ f.dst = 0x38
    let toDown := f.dst ≠ s.link.ownAddress
    let received := toReceive ∧ s.link.uReceive.length < 8
    let forwarded := toDown ∧ s.link.downForward.length < 16
    ∃ t, exec (.portUFrameReceived f.bytes) s = .next t
      ∧ OnlyChanges [.link, .notice] s t
      ∧ (received → t.link.uReceive = s.link.uReceive ++ [f])
      ∧ (¬ received → t.link.uReceive = s.link.uReceive)
      ∧ (forwarded → t.link.downForward = s.link.downForward ++ [f])
      ∧ (¬ forwarded → t.link.downForward = s.link.downForward)
      ∧ t.link = { s.link with uReceive := t.link.uReceive, downForward := t.link.downForward }
      ∧ ((toReceive → received) → (toDown → forwarded) → t.notice = s.notice)
      ∧ (toReceive → ¬ received → (toDown → forwarded) →
          t.notice = (raise .overrun none (.queue .u .uReceive) s).notice)
      ∧ ((toReceive → received) → toDown → ¬ forwarded →
          t.notice = (raise .overrun none (.queue .u .downForward) s).notice)
      ∧ (toReceive → ¬ received → toDown → ¬ forwarded →
          t.notice = (raise .overrun none (.queue .u .downForward)
            (raise .overrun none (.queue .u .uReceive) s)).notice)

/-- R147: on Port D a Key Report of a Tower Drive Module is consumed, whatever its destination; any other frame for the
Controller is discarded; the rest are placed in the Up Forward Queue or dropped with OVERRUN. -/
def Obligations.PortDRoutesByKindAndDestination : Prop :=
  ∀ (s : State) (f : Frame), s.link.resetHeld = false → f.payload.length ≤ 240 →
    (∀ u : TowerIdx, f.kind = 0x48 → f.src.toNat = 0x10 + u.val →
      (f.payload.length = 5 → exec (.portDFrameReceived f.bytes) s = .next (takeKeyReport u f.payload s))
      ∧ (f.payload.length ≠ 5 → exec (.portDFrameReceived f.bytes) s = .next s))
    ∧ ((f.kind ≠ 0x48 ∨ f.src.toNat < 0x10 ∨ 0x1B < f.src.toNat) →
      ((f.dst = s.link.ownAddress ∨ f.dst = 0x38) → exec (.portDFrameReceived f.bytes) s = .next s)
      ∧ (f.dst ≠ s.link.ownAddress → f.dst ≠ 0x38 → s.link.upForward.length < 16 →
          exec (.portDFrameReceived f.bytes) s
            = .next (s.setLink { s.link with upForward := s.link.upForward ++ [f] }))
      ∧ (f.dst ≠ s.link.ownAddress → f.dst ≠ 0x38 → 16 ≤ s.link.upForward.length →
          exec (.portDFrameReceived f.bytes) s = .next (raise .overrun none (.queue .d .upForward) s)))

/-- R148: on Port M a Density frame is queued with the Sheet Count standing at its arrival, or dropped with OVERRUN; a frame of
any other kind is discarded without a notice. -/
def Obligations.PortMQueuesDensityFrames : Prop :=
  ∀ (s : State) (f : Frame), s.link.resetHeld = false → f.payload.length ≤ 240 →
    (f.kind ≠ 0x50 → exec (.portMFrameReceived f.bytes) s = .next s)
    ∧ (f.kind = 0x50 → s.link.mReceive.length < 4 →
        exec (.portMFrameReceived f.bytes) s
          = .next (s.setLink { s.link with mReceive := s.link.mReceive ++ [(f, s.cycle.sheetCount)] }))
    ∧ (f.kind = 0x50 → 4 ≤ s.link.mReceive.length →
        exec (.portMFrameReceived f.bytes) s = .next (raise .overrun none (.queue .m .mReceive) s))

/-! ### Transmission (R150, R151) -/

/-- R150, R136, R137, R138: a free Port U transmitter takes the oldest response, else the oldest forwarded frame, else the
Notice frame of the sendable kind of best priority, the lowest number of equals, whose record is removed. -/
def Obligations.PortUArbiterServesInOrder : Prop :=
  ∀ s : State,
    (∀ f rest, s.link.responses = f :: rest →
      exec .portUTransmitArbiter s = .next (s.setLink { s.link with responses := rest, uTransmit := some f }))
    ∧ (∀ f rest, s.link.responses = [] → s.link.upForward = f :: rest →
      exec .portUTransmitArbiter s = .next (s.setLink { s.link with upForward := rest, uTransmit := some f }))
    ∧ (s.link.responses = [] → s.link.upForward = [] →
      let sendable := fun k : Fin 8 => (∃ r, look s.notice.records k = some r) ∧ look s.notice.enabled k = true
        ∧ s.notice.off = false ∧ ∀ u, look s.cycle.hold u = false
      ((∀ k, ¬ sendable k) → exec .portUTransmitArbiter s = .next (s.setLink { s.link with uTransmit := none }))
      ∧ ∀ k r, sendable k → look s.notice.records k = some r →
        (∀ m, sendable m → look s.notice.priorities k < look s.notice.priorities m
          ∨ (look s.notice.priorities k = look s.notice.priorities m ∧ k ≤ m)) →
        let notice : Frame := ⟨0x3F, s.link.ownAddress, 0x61,
          byte1 k.val ++ byte2 (setNum r.towers) ++ byte1 r.count ++ r.detail.bytes ++ byte4 r.firstSheet⟩
        exec .portUTransmitArbiter s = .next
          ((s.setNotice { s.notice with records := put s.notice.records k none }).setLink
            { s.link with uTransmit := some notice }))

/-- R77, R151: a free Port D transmitter takes the oldest entry of the Drive Command Queue as a Key Command or Sweep Command to
the tower's module, a MOVE starting its zone's timer (R91); with that queue empty, the oldest forwarded frame. -/
def Obligations.PortDArbiterServesInOrder : Prop :=
  ∀ s : State,
    (∀ u z target tag rest, s.motion.queue = .move u z target tag :: rest →
      let command : Frame :=
        ⟨BitVec.ofNat 8 (0x10 + u.val), s.link.ownAddress, 0x40, byte1 z.val ++ byte2 target ++ [tag]⟩
      ∃ t, exec .portDTransmitArbiter s = .next t
        ∧ OnlyChanges [.motion, .link] s t
        ∧ t.link = { s.link with dTransmit := some command }
        ∧ t.motion = { s.motion with queue := rest, zones := t.motion.zones }
        ∧ t.zone u z = { s.zone u z with timer := some (s.clock + s.motion.timeout * 10) }
        ∧ ∀ v y, (v, y) ≠ (u, z) → t.zone v y = s.zone v y)
    ∧ (∀ u v rest, s.motion.queue = .sweep u v :: rest →
      let command : Frame := ⟨BitVec.ofNat 8 (0x10 + u.val), s.link.ownAddress, 0x41, byte2 v⟩
      exec .portDTransmitArbiter s = .next
        ((s.setMotion { s.motion with queue := rest }).setLink { s.link with dTransmit := some command }))
    ∧ (s.motion.queue = [] →
      (∀ f rest, s.link.downForward = f :: rest →
        exec .portDTransmitArbiter s = .next (s.setLink { s.link with downForward := rest, dTransmit := some f }))
      ∧ (s.link.downForward = [] →
        exec .portDTransmitArbiter s = .next (s.setLink { s.link with dTransmit := none })))

/-! ### Requests (R152, R153, R154) -/

/-- A request is taken only from the head of the U Receive Queue and only while the Response Queue holds fewer than 4 frames;
taken, it leaves the queue and is answered once, to its source, unless it was a broadcast. Where there is none to take the
command has no effect (the model's choice, log entry 1). -/
def Obligations.EachRequestIsAnsweredOnce : Prop :=
  ∀ c k, (c, k) ∈ requestCommands → ∀ s : State,
    (∀ f rest, Waits s k f rest →
      ∃ t code fields, exec c s = .next t ∧ code ≤ 6
        ∧ t.link.responses = responsesAfter s f code fields
        ∧ t.link.ownAddress = s.link.ownAddress
        ∧ (c ≠ .bridgeReset → t.link = { s.link with uReceive := rest, responses := t.link.responses }))
    ∧ ((∀ f rest, ¬ Waits s k f rest) → exec c s = .next s)

/-- R153: a request whose kind is no request kind is answered UNKNOWN, and one whose payload has the wrong length RANGE, each with
its kind and the code alone, or not answered where it was a broadcast; neither has any other effect. The length is wrong where
it is not that of a fixed payload, where a payload with a list is too short to hold its counts, and where it disagrees with
counts that lie in their ranges; a count out of its range is judged first, as far as the payload reaches it (the model's
reading, log entry 7). -/
def Obligations.UnknownKindsAndWrongLengthsAreRefused : Prop :=
  (∀ (s : State) (f : Frame) (rest : List Frame),
    s.link.uReceive = f :: rest → s.link.responses.length < 4 → (∀ k : RequestKind, f.kind ≠ k.code) →
    ∃ t, exec .unknownRequestKind s = .next t ∧ Answered s f rest 7 [] t ∧ OnlyChanges [.link] s t)
  ∧ ∀ c k, (c, k) ∈ requestCommands → ∀ (s : State) (f : Frame) (rest : List Frame), Waits s k f rest →
    let len := f.payload.length
    let count := u8 f.payload
    let wrong := match k with
      | .loadCurve =>
        len < 3
          ∨ (count 2 ≤ 8 ∧ (len < 4 + count 2
            ∨ (2 ≤ count (3 + count 2) ∧ count (3 + count 2) ≤ 9 ∧ len ≠ 4 + count 2 + 4 * count (3 + count 2))))
      | .setJobLabel => len < 2 ∨ (count 1 ≤ 16 ∧ len ≠ 2 + count 1)
      | .setOffsets => len < 4 ∨ (1 ≤ count 3 ∧ count 3 ≤ 48 ∧ len ≠ 4 + 2 * count 3)
      | .stripSegment => len < 5 ∨ (1 ≤ count 4 ∧ count 4 ≤ 96 ∧ len ≠ 5 + 2 * count 4)
      | other => fixedLength other ≠ some len
    wrong → ∃ t, exec c s = .next t ∧ Answered s f rest 3 [] t ∧ OnlyChanges [.link] s t

/-- R17, with the ranges of R22, R25, R26, R36, R41 and R69: a load request that names a tower is refused RANGE on a slot, tower or
field out of range, before anything else, and BUSY on an ARMED slot; a refusal carries the fields of R18 and changes nothing
but the queues of the link. The ready indication of a slot or tower out of range is 0 (R160; log entry 8), and a list's count
out of range is refused with these fields too (log entry 7). -/
def Obligations.LoadRequestsCheckFieldsThenArmed : Prop :=
  ∀ c k (bad : List Byte → Prop) (len : List Byte → Nat), (c, k, bad, len) ∈
    ([(.configureTower, .configureTower,
        fun p => 1 < u8 p 2 ∨ (31 < u8 p 3 ∧ u8 p 3 ≠ 255) ∨ (31 < u8 p 4 ∧ u8 p 4 ≠ 255) ∨ 64 < u8 p 5
          ∨ u16 p 6 < 512 ∨ 2048 < u16 p 6 ∨ u16 p 8 < 1 ∨ 4095 < u16 p 8 ∨ 15 < u8 p 10 ∨ 15 < u8 p 11 ∨ 15 < u8 p 12,
        fun _ => 13),
      (.setTargets, .setTargets,
        fun p => 3000 < u16 p 2 ∨ 500 < u16 p 4 ∨ 500 < u16 p 6 ∨ u8 p 8 < 1 ∨ 16 < u8 p 8 ∨ 1000 < u16 p 10 ∨ 1 < u8 p 12,
        fun _ => 13),
      (.loadZoneMap, .loadZoneMap,
        fun p => u8 p 2 < 8 ∨ 48 < u8 p 2 ∨ u16 p 5 < 16 ∨ 4096 < u16 p 5 ∨ 32768 < u16 p 3
          ∨ 32768 < u16 p 3 + u8 p 2 * u16 p 5,
        fun _ => 7),
      (.setOffsets, .setOffsets, fun p => 47 < u8 p 2 ∨ u8 p 3 < 1 ∨ 48 < u8 p 3, fun p => 4 + 2 * u8 p 3),
      (.stripOpen, .stripOpen, fun p => u16 p 2 < 1 ∨ 2048 < u16 p 2 ∨ 1 < u8 p 4, fun _ => 5),
      (.stripSegment, .stripSegment, fun p => u8 p 4 < 1 ∨ 96 < u8 p 4, fun p => 5 + 2 * u8 p 4),
      (.stripClose, .stripClose, fun _ => False, fun _ => 2)]
      : List (Instr × RequestKind × (List Byte → Prop) × (List Byte → Nat))) →
  ∀ (s : State) (f : Frame) (rest : List Frame), Waits s k f rest → f.payload.length = len f.payload →
    ((2 ≤ u8 f.payload 0 ∨ 12 ≤ u8 f.payload 1) →
      ∃ t more, exec c s = .next t ∧ OnlyChanges [.link] s t
        ∧ Answered s f rest 3 (byte1 (u8 f.payload 0) ++ byte1 (look s.jobs 0).num ++ byte1 (look s.jobs 1).num
            ++ byte1 (u8 f.payload 1) ++ [0] ++ more) t)
    ∧ ∀ (j : SlotIdx) (u : TowerIdx), j.val = u8 f.payload 0 → u.val = u8 f.payload 1 →
      (bad f.payload →
        ∃ t more, exec c s = .next t ∧ Answered s f rest 3 (loadAnswer j u s ++ more) t ∧ OnlyChanges [.link] s t)
      ∧ (¬ bad f.payload → (look s.jobs j).inRole .armed = true →
        ∃ t more, exec c s = .next t ∧ Answered s f rest 1 (loadAnswer j u s ++ more) t ∧ OnlyChanges [.link] s t)

/-! ### Reports (R8, R31, R155, R156, R157) -/

/-- R157: Read Status answers OK with the whole report, read at one moment, and changes nothing. That the report holds these bytes
alone, and so no job label, is the model's reading of R154, R157 and R160 against a sentence of R28 (log entry 22). -/
def Obligations.ReadStatusReportsTheMoment : Prop :=
  ∀ (s : State) (f : Frame) (rest : List Frame), Waits s .readStatus f rest → f.payload = [] →
    ∃ t, exec .readStatus s = .next t ∧ OnlyChanges [.link] s t
      ∧ Answered s f rest 0
        ([0x48, 0x12, 1, s.link.ownAddress] ++ byte1 s.cycle.phase.num ++ byte4 s.cycle.sheetCount
          ++ byte1 (look s.jobs 0).num ++ byte1 (look s.jobs 1).num
          ++ (match s.cycle.armed with
              | some a => byte1 a.slot.val
              | none => [0xFF])
          ++ [if s.motion.restricted then 1 else 0]
          ++ byte1 ((List.finRange 4).filter fun i => (look s.buffers i).isSome).length
          ++ byte1 (setNum (tab fun k => (look s.notice.records k).isSome))
          ++ [if s.notice.off then 1 else 0]
          ++ [if ∃ u, look s.cycle.hold u = true then 1 else 0]) t

/-- R156: Read Tower answers one entry of ten bytes for the named tower, twelve in tower order for ALL, and RANGE for any other
value; it changes nothing. -/
def Obligations.ReadTowerReportsItsEntries : Prop :=
  ∀ (s : State) (f : Frame) (rest : List Frame) (n : Byte), Waits s .readTower f rest → f.payload = [n] →
    let entry := fun u : TowerIdx =>
      byte1 u.val ++ byte1 (s.record 0 u).strip.num ++ byte1 (s.record 1 u).strip.num
        ++ [if (s.pass u).state = .active then 1 else 0] ++ byte1 (s.pass u).cursor
        ++ byte1 (look s.motion.inFlight u)
        ++ byte1 (if s.motion.restricted then 1 else look s.motion.concurrency u)
        ++ (match (s.pass u).sweep with
            | some v => byte2 v
            | none => [0xFF, 0xFF])
        ++ byte1 ((if look s.trim.armed u then 1 else 0) + (if look s.trim.saturated u then 2 else 0))
    ∃ t, exec .readTower s = .next t ∧ OnlyChanges [.link] s t
      ∧ (∀ u : TowerIdx, n.toNat = u.val → Answered s f rest 0 ([1] ++ entry u) t)
      ∧ (n = 0xFF → Answered s f rest 0 ([12] ++ allTowers.flatMap entry) t)
      ∧ (12 ≤ n.toNat → n ≠ 0xFF → Answered s f rest 3 [] t)

/-- R155: Read Zone answers one Zone Report entry of 14 bytes for each zone, and every field of an entry reads back as the value
it stands for, an absent one as 0 with its presence bit clear; a request out of range is refused RANGE. The value clauses are
for values within the twelve bits of their field. -/
def Obligations.ReadZoneEntriesReadBack : Prop :=
  ∀ (s : State) (f : Frame) (rest : List Frame) (a b first n : Byte), Waits s .readZone f rest →
    f.payload = [a, b, first, n] →
    ∃ t, exec .readZone s = .next t ∧ OnlyChanges [.link] s t
      ∧ ((2 ≤ a.toNat ∨ 12 ≤ b.toNat ∨ 47 < first.toNat ∨ n.toNat = 0 ∨ 16 < n.toNat ∨ 48 < first.toNat + n.toNat) →
          Answered s f rest 3 [] t)
      ∧ ∀ (j : SlotIdx) (u : TowerIdx), a.toNat = j.val → b.toNat = u.val → 1 ≤ n.toNat → n.toNat ≤ 16 →
        first.toNat + n.toNat ≤ 48 →
        ∃ entries, Answered s f rest 0 ([a, b, first, n] ++ entries) t ∧ entries.length = 14 * n.toNat
          ∧ ∀ (z : ZoneIdx) (i : Nat), i < n.toNat → z.val = first.toNat + i →
            let byteAt := fun k : Nat => (entries.getD (14 * i + k) 0).toNat
            let upper := fun k : Nat => byteAt k * 16 + byteAt (k + 1) / 16
            let lower := fun k : Nat => byteAt (k + 1) % 16 * 256 + byteAt (k + 2)
            let coverage := ((s.record j u).coverage.getD [])[z.val]?
            let offset := if (s.record j u).zoneMap.isSome then (s.record j u).offsets[z.val]? else none
            byteAt 0 % 8 = (s.zone u z).state.num
            ∧ (byteAt 0 / 8 % 2 = 1 ↔ (s.zone u z).state = .faulted)
            ∧ (byteAt 0 / 16 % 2 = 1 ↔ look s.trim.saturated u = true)
            ∧ (byteAt 0 / 32 % 2 = 1 ↔ (s.zone u z).actual ≠ none)
            ∧ (byteAt 0 / 64 % 2 = 1 ↔ s.targetOf u z ≠ none)
            ∧ (byteAt 0 / 128 = 1 ↔ coverage ≠ none)
            ∧ (byteAt 1 % 2 = 1 ↔ offset ≠ none)
            ∧ (byteAt 1 / 2 = 1 ↔ (s.trimOf u z).lastAverage ≠ none) ∧ byteAt 1 / 4 = 0
            ∧ (∀ c, coverage = some c → c < 4096 → upper 2 = c) ∧ (coverage = none → upper 2 = 0)
            ∧ (∀ o, offset = some o → (lower 2 : Int) = o % 4096) ∧ (offset = none → lower 2 = 0)
            ∧ (∀ g, s.targetOf u z = some g → g.e < 4096 → g.b < 4096 → upper 5 = g.e ∧ lower 5 = g.b)
            ∧ (s.targetOf u z = none → upper 5 = 0 ∧ lower 5 = 0 ∧ lower 8 = 0)
            ∧ ((∀ g, s.targetOf u z = some g → g.k < 4096) →
                (upper 8 : Int) = (s.trimOf u z).trim % 4096 ∧ ∀ g, s.targetOf u z = some g → lower 8 = g.k)
            ∧ ((∀ y, (s.trimOf u z).lastAverage = some y → y < 4096) →
                (∀ x, (s.zone u z).actual = some x → x < 4096 → upper 11 = x)
                ∧ ((s.zone u z).actual = none → upper 11 = 0)
                ∧ (∀ y, (s.trimOf u z).lastAverage = some y → lower 11 = y)
                ∧ ((s.trimOf u z).lastAverage = none → lower 11 = 0))

/-- R8: Read Curve answers the slot, its contents with absent fields for an EMPTY slot, and whether the RUNNING and the ARMED
job name it; a slot number above 31 is refused RANGE; it changes nothing. -/
def Obligations.ReadCurveReportsSlotAndProtection : Prop :=
  ∀ (s : State) (f : Frame) (rest : List Frame) (n : Byte), Waits s .readCurve f rest → f.payload = [n] →
    let named := fun (r : Role) (c : CurveIdx) =>
      ∃ j job, look s.jobs j = .held r job ∧ ∃ u, (look job.towers u).keyCurve = some c ∨ (look job.towers u).sweepCurve = some c
    ∃ t, exec .readCurve s = .next t ∧ OnlyChanges [.link] s t
      ∧ (32 ≤ n.toNat → Answered s f rest 3 [] t)
      ∧ ∀ c : CurveIdx, n.toNat = c.val → ∀ bit0 bit1 : Nat,
        bit0 < 2 → bit1 < 2 → (bit0 = 1 ↔ named .running c) → (bit1 = 1 ↔ named .armed c) →
        (look s.library c = none → Answered s f rest 0 ([n, 0, 0xFF, 0, 0] ++ byte1 (bit0 + 2 * bit1)) t)
        ∧ ∀ cv, look s.library c = some cv →
          Answered s f rest 0
            ([n, 1, (match cv.kind with | .key => 0 | .sweep => 1)]
              ++ (match cv.label with
                  | none => [0]
                  | some l => byte1 l.length ++ l)
              ++ byte1 cv.vertices.length ++ (cv.vertices.flatMap fun v => byte2 v.1 ++ byte2 v.2)
              ++ byte1 (bit0 + 2 * bit1)) t

/-- R31: Read Settings answers the slot's state and label and the tower's ready indication and record, an EMPTY slot as the
default record; a slot or tower out of range is refused RANGE; it changes nothing. -/
def Obligations.ReadSettingsReportsTheRecord : Prop :=
  ∀ (s : State) (f : Frame) (rest : List Frame) (a b : Byte), Waits s .readSettings f rest → f.payload = [a, b] →
    ∃ t, exec .readSettings s = .next t ∧ OnlyChanges [.link] s t
      ∧ ((2 ≤ a.toNat ∨ 12 ≤ b.toNat) → Answered s f rest 3 [] t)
      ∧ ∀ (j : SlotIdx) (u : TowerIdx), a.toNat = j.val → b.toNat = u.val →
        ∃ (label : List Byte) (ready : Bool) (r : TowerSettings),
          (look s.jobs j = .empty → label = [] ∧ ready = false ∧ r = .default)
          ∧ (∀ role job, look s.jobs j = .held role job →
              label = job.label.getD [] ∧ ready = look job.ready u ∧ r = look job.towers u)
          ∧ Answered s f rest 0
              (byte1 (look s.jobs j).num ++ byte1 label.length ++ label ++ [if ready then 1 else 0]
                ++ [if r.enabled then 1 else 0] ++ byte1 ((r.keyCurve.map Fin.val).getD 0xFF)
                ++ byte1 ((r.sweepCurve.map Fin.val).getD 0xFF) ++ byte1 r.sideWeight ++ byte2 r.scale ++ byte2 r.keyMax
                ++ byte1 r.deadband ++ byte1 r.movePhases.num ++ byte1 r.trimPhases.num
                ++ (match r.zoneMap with
                    | some m => byte1 m.zones ++ byte2 m.edge ++ byte2 m.width
                    | none => [0xFF, 0xFF, 0xFF, 0xFF, 0xFF])
                ++ byte1 r.strip.num ++ [if r.coverage.isSome then 1 else 0]
                ++ byte2 r.target ++ byte2 r.tolLow ++ byte2 r.tolHigh ++ byte1 r.avgCount ++ byte1 r.settleSheets
                ++ byte2 r.trimLimit ++ byte1 r.trimMode.num) t

/-! ### Ink curves (chapter 1) -/

/-- R3, R6, R7: a Load Curve is refused RANGE on a slot number or contents that break R2, then IN_USE on a protected slot, and is
otherwise carried out: the whole content replaced, every other slot kept, the readiness of the jobs that name it re-evaluated
before the answer, which carries the slot number and both slot states. That a label length above 8 or a vertex count outside 2
to 9 is refused with these fields is the model's reading (log entry 7). -/
def Obligations.LoadCurveReplacesTheSlot : Prop :=
  ∀ (s : State) (f : Frame) (rest : List Frame) (n kind : Byte) (label : List Byte) (vertices : List (Nat × Nat)),
    Waits s .loadCurve f rest → label.length < 256 → vertices.length < 256 →
    (∀ v ∈ vertices, v.1 < 65536 ∧ v.2 < 65536) →
    f.payload = [n, kind] ++ byte1 label.length ++ label ++ byte1 vertices.length
      ++ vertices.flatMap (fun v => byte2 v.1 ++ byte2 v.2) →
    let curve := fun k : CurveKind => (⟨k, if label = [] then none else some label, vertices⟩ : Curve)
    let states := fun t : State => byte1 (look t.jobs 0).num ++ byte1 (look t.jobs 1).num
    ∃ t, exec .loadCurve s = .next t
      ∧ ((32 ≤ n.toNat ∨ 2 ≤ kind.toNat ∨ ∀ k, k.num = kind.toNat → (curve k).valid = false) →
          Answered s f rest 3 ([n] ++ states s) t ∧ OnlyChanges [.link] s t)
      ∧ ∀ (c : CurveIdx) (k : CurveKind), n.toNat = c.val → kind.toNat = k.num → (curve k).valid = true →
        (s.inUse c = true → Answered s f rest 5 ([n] ++ states s) t ∧ OnlyChanges [.link] s t)
        ∧ (s.inUse c = false →
            Answered s f rest 0 ([n] ++ states t) t ∧ OnlyChanges [.library, .jobs, .link] s t
            ∧ look t.library c = some (curve k) ∧ (∀ d, d ≠ c → look t.library d = look s.library d)
            ∧ LibraryChanged c s t)

/-- R4, R6, R7: an Erase Curve is refused RANGE on a slot number above 31, then IN_USE on a protected slot, and otherwise leaves
the slot EMPTY, already EMPTY or not, with the readiness of the jobs that name it re-evaluated before the answer. -/
def Obligations.EraseCurveEmptiesTheSlot : Prop :=
  ∀ (s : State) (f : Frame) (rest : List Frame) (n : Byte), Waits s .eraseCurve f rest → f.payload = [n] →
    let states := fun t : State => byte1 (look t.jobs 0).num ++ byte1 (look t.jobs 1).num
    ∃ t, exec .eraseCurve s = .next t
      ∧ (32 ≤ n.toNat → Answered s f rest 3 ([n] ++ states s) t ∧ OnlyChanges [.link] s t)
      ∧ ∀ c : CurveIdx, n.toNat = c.val →
        (s.inUse c = true → Answered s f rest 5 ([n] ++ states s) t ∧ OnlyChanges [.link] s t)
        ∧ (s.inUse c = false →
            Answered s f rest 0 ([n] ++ states t) t ∧ OnlyChanges [.library, .jobs, .link] s t
            ∧ look t.library c = none ∧ (∀ d, d ≠ c → look t.library d = look s.library d)
            ∧ LibraryChanged c s t)

/-- The law of R5: no command but power-on reset changes a curve slot that the RUNNING or the ARMED job names. -/
def Obligations.CurvesInUseAreFixed : Prop :=
  ∀ (c : Instr) (s t : State), exec c s = .next t → c ≠ .powerOnReset → ∀ d : CurveIdx,
    (∃ j job u, (look s.jobs j = .held .running job ∨ look s.jobs j = .held .armed job)
      ∧ ((look job.towers u).keyCurve = some d ∨ (look job.towers u).sweepCurve = some d)) →
    look t.library d = look s.library d

/-- R9, R10: a Curve Evaluation of a slot LOADED with the expected kind is its curve's value, and there is none of an EMPTY slot or
one of the other kind (the two cases of R11). A valid curve has a value at every coverage 0 to 1000. At 1000 it is the last
vertex's y; below, in the segment
closed at its left vertex and open at its right, it is y_i plus the quotient rounded to the nearest integer, a tie away from
zero, and so lies between the two vertices' y. -/
def Obligations.CurveEvaluationInterpolates : Prop :=
  (∀ (lib : Library) (k : CurveKind) (slot : CurveIdx) (x : Nat),
    (look lib slot = none → curveEvaluation lib k slot x = none)
    ∧ ∀ c, look lib slot = some c →
      (c.kind ≠ k → curveEvaluation lib k slot x = none) ∧ (c.kind = k → curveEvaluation lib k slot x = c.eval x))
  ∧ ∀ c : Curve, c.valid = true →
    (∀ x, x ≤ 1000 → ∃ y, c.eval x = some y ∧ y ≤ c.kind.yMax)
    ∧ (∀ v, c.vertices.getLast? = some v → c.eval 1000 = some v.2)
    ∧ ∀ before v w after x, c.vertices = before ++ v :: w :: after → v.1 ≤ x → x < w.1 →
      ∃ y, c.eval x = some y ∧ min v.2 w.2 ≤ y ∧ y ≤ max v.2 w.2
        ∧ (let num : Int := ((w.2 : Int) - v.2) * ((x : Int) - v.1)
           let den : Int := (w.1 : Int) - v.1
           let q : Int := (y : Int) - v.2
           2 * |num - q * den| ≤ den ∧ (2 * |num - q * den| = den → |num| ≤ |q * den|))

/-! ### Jobs and Tower Settings (chapter 2) -/

/-- R28, with R16 and R18: Set Job Label refuses a slot or a character out of range or a label longer than 16, then an ARMED slot,
and else replaces the label, a label of length zero making it absent; an EMPTY slot takes twelve default records. That a label
length above 16 is refused with the fields of R18 is the model's reading (log entry 7). -/
def Obligations.SetJobLabelWritesTheLabel : Prop :=
  ∀ (s : State) (f : Frame) (rest : List Frame) (a : Byte) (label : List Byte),
    Waits s .setJobLabel f rest → label.length < 256 → f.payload = [a] ++ byte1 label.length ++ label →
    let states := fun t : State => [a] ++ byte1 (look t.jobs 0).num ++ byte1 (look t.jobs 1).num
    ∃ t, exec .setJobLabel s = .next t
      ∧ ((2 ≤ a.toNat ∨ 16 < label.length ∨ ∃ b ∈ label, b.toNat < 0x20 ∨ 0x7E < b.toNat) →
          Answered s f rest 3 (states s) t ∧ OnlyChanges [.link] s t)
      ∧ ∀ j : SlotIdx, a.toNat = j.val → label.length ≤ 16 → (∀ b ∈ label, 0x20 ≤ b.toNat ∧ b.toNat ≤ 0x7E) →
        ((look s.jobs j).inRole .armed = true → Answered s f rest 1 (states s) t ∧ OnlyChanges [.link] s t)
        ∧ ((look s.jobs j).inRole .armed = false →
            Answered s f rest 0 (states t) t ∧ OnlyChanges [.jobs, .link] s t
            ∧ JobWritten s t j (if label = [] then none else some label) (look s.jobs j).job.towers)

/-- R22, R20, R21: a Configure Tower of a slot being prepared replaces the nine configuration fields of one record, re-evaluates
the slot's readiness and is handed on to no other block. -/
def Obligations.ConfigureTowerWritesNineFields : Prop :=
  ∀ (s : State) (f : Frame) (rest : List Frame) (j : SlotIdx) (u : TowerIdx) (on : Bool) (key sweep : Option CurveIdx)
    (side scale keyMax deadband : Nat) (move trim : PhaseSet),
    Waits s .configureTower f rest → side ≤ 64 → 512 ≤ scale → scale ≤ 2048 → 1 ≤ keyMax → keyMax ≤ 4095 → deadband ≤ 15 →
    f.payload = byte1 j.val ++ byte1 u.val ++ byte1 (if on then 1 else 0) ++ byte1 ((key.map Fin.val).getD 0xFF)
      ++ byte1 ((sweep.map Fin.val).getD 0xFF) ++ byte1 side ++ byte2 scale ++ byte2 keyMax ++ byte1 deadband
      ++ byte1 move.num ++ byte1 trim.num →
    s.preparing j →
    ∃ t, exec .configureTower s = .next t
      ∧ Answered s f rest 0 (loadAnswer j u t) t ∧ OnlyChanges [.jobs, .link] s t
      ∧ JobWritten s t j (look s.jobs j).job.label (s.withRecord j u { s.record j u with
          enabled := on, keyCurve := key, sweepCurve := sweep, sideWeight := side, scale := scale, keyMax := keyMax,
          deadband := deadband, movePhases := move, trimPhases := trim })

/-- R24, R23: a Configure Tower that disables an enabled tower of the running job: every zone loses E, B and K, waiting and
resting zones become NO_TARGET, moving and FAULTED ones keep their state, a lowered key maximum having been handed on first;
the pass is abandoned and the sweep absent; trims 0, averaging reset, Trim Saturated clear, Trim Armed kept; queued SWEEP
entries and the strip buffers stay; the Settle Watch is clear (R96); the tower leaves the Hold Tower Set, and CHANGEOVER_DONE is
raised where that empties it (R129, R130); Restricted Motion is re-evaluated (R82); no other tower loses a Key Target or a trim,
and a Dispatch Scan is made (R80). That the zones which leave PENDING raise no SETTLED is the model's reading (log entry 10). -/
def Obligations.DisablingARunningTowerClearsIt : Prop :=
  ∀ (s : State) (f : Frame) (rest : List Frame) (j : SlotIdx) (u : TowerIdx),
    Waits s .configureTower f rest → f.payload.length = 13 → configOk f.payload = true →
    u8 f.payload 0 = j.val → u8 f.payload 1 = u.val → u8 f.payload 2 = 0 →
    s.runningSlot = some j → (s.tower u).enabled = true →
    let old := s.record j u
    let new := old.configure f.payload
    let lastHeld := look s.cycle.hold u = true ∧ ∀ v, v ≠ u → look s.cycle.hold v = false
    ∃ t, exec .configureTower s = .next t
      ∧ Answered s f rest 0 (loadAnswer j u t) t
      ∧ OnlyChanges [.jobs, .engine, .motion, .trim, .cycle, .notice, .link] s t
      ∧ JobWritten s t j (look s.jobs j).job.label (s.withRecord j u new)
      ∧ (∀ z, t.targetOf u z = none) ∧ (∀ v z, v ≠ u → t.targetOf v z = s.targetOf v z)
      ∧ (∀ z,
          let w := ((s.setJobs t.jobs).afterClamp u z old.keyMax new.keyMax).zone u z
          t.zone u z = { w with state := match w.state with
            | .moving => .moving
            | .retry => .retry
            | .faulted => .faulted
            | .noTarget => .noTarget
            | .atTarget => .noTarget
            | .pending => .noTarget })
      ∧ (∀ v z, v ≠ u → StartedOrSame s t v z)
      ∧ t.pass u = { s.pass u with state := .none, rerun := false, sweep := none }
      ∧ (∀ v, v ≠ u → t.pass v = s.pass v)
      ∧ (∀ z, t.trimOf u z = ⟨0, 0, 0, (s.trimOf u z).lastAverage⟩)
      ∧ (∀ v z, v ≠ u → (t.trimOf v z).trim = (s.trimOf v z).trim ∧ (t.trimOf v z).lastAverage = (s.trimOf v z).lastAverage)
      ∧ t.trim.saturated = put s.trim.saturated u false ∧ t.trim.armed = s.trim.armed
      ∧ t.motion.queue.filter DriveEntry.isSweep = s.motion.queue.filter DriveEntry.isSweep
      ∧ look t.motion.watch u = false ∧ SameLimits s t
      ∧ t.cycle = { s.cycle with hold := put s.cycle.hold u false }
      ∧ (lastHeld → look t.notice.records 1
          = some (mergeNotice (look s.notice.records 1) none .absent s.cycle.sheetCount))
      ∧ (¬ lastHeld → look t.notice.records 1 = look s.notice.records 1)
      ∧ Reevaluated s t (fun v => v ≠ u && (s.tower v).enabled)
      ∧ (old.keyMax ≤ new.keyMax → look t.notice.records 7 = look s.notice.records 7)
      ∧ (∀ k, k ≠ 1 → k ≠ 2 → k ≠ 7 → look t.notice.records k = look s.notice.records k)
      ∧ ScanExhausted t

/-- R54, R55, R64, R65, R23: a Configure Tower that leaves a tower of the running job enabled is a Pass Cause, and one that leaves a
disabled tower disabled is none. A Key Target above a lowered key maximum becomes it and is handed on. A changed curve
reference first abandons an ACTIVE pass; where no new pass begins, each zone at or above the abandoned cursor then has a Zone
Update, handed on too; where neither hands one on, no SETTLED is raised. A changed enabled field re-evaluates Restricted Motion
(R82), and a Dispatch Scan is made (R80). That those Zone Updates come after the Pass Cause is the model's reading (log entry
11). -/
def Obligations.ConfiguringARunningTowerCausesAPass : Prop :=
  ∀ (s : State) (f : Frame) (rest : List Frame) (j : SlotIdx) (u : TowerIdx),
    Waits s .configureTower f rest → f.payload.length = 13 → configOk f.payload = true →
    u8 f.payload 0 = j.val → u8 f.payload 1 = u.val → s.runningSlot = some j →
    let old := s.record j u
    let new := old.configure f.payload
    let on := u8 f.payload 2 = 1
    let ready := towerReady s.library new
    let mean := match new.coverage, new.zoneMap with
      | some c, some m => some ((2 * c.sum + m.zones) / (2 * m.zones))
      | _, _ => none
    let sameCurves := old.keyCurve = new.keyCurve ∧ old.sweepCurve = new.sweepCurve
    let updated := fun z : ZoneIdx => on ∧ (s.pass u).state = .active ∧ ¬ sameCurves ∧ ready = false ∧ (s.pass u).cursor ≤ z.val
    (on ∨ old.enabled = false) →
    ∃ t, exec .configureTower s = .next t
      ∧ Answered s f rest 0 (loadAnswer j u t) t
      ∧ OnlyChanges [.jobs, .engine, .motion, .trim, .notice, .link] s t
      ∧ JobWritten s t j (look s.jobs j).job.label (s.withRecord j u new)
      ∧ (on → ((s.pass u).state = .none ∨ sameCurves) → t.pass u = (s.pass u).caused ready mean)
      ∧ (on → (s.pass u).state = .active → ¬ sameCurves →
          t.pass u = { s.pass u with state := .none, rerun := false }.caused ready mean)
      ∧ (¬ on → t.pass u = s.pass u)
      ∧ (∀ v, v ≠ u → t.pass v = s.pass v)
      ∧ ((∀ z g, s.targetOf u z = some g → g.k ≤ old.keyMax) → ∀ z g, t.targetOf u z = some g → g.k ≤ new.keyMax)
      ∧ (∀ z,
          let clamped := (s.setJobs t.jobs).afterClamp u z old.keyMax new.keyMax
          ((¬ updated z ∨ s.targetOf u z = none) →
            t.targetOf u z = clamped.targetOf u z ∧ StartedOrSame clamped t u z)
          ∧ ∀ g, updated z → clamped.targetOf u z = some g →
            HandedOn clamped t u z { g with
              k := (max 0 (min (new.keyMax : Int) (g.b + (s.trimOf u z).trim + new.offsets.getD z.val 0))).toNat })
      ∧ (∀ v z, v ≠ u → t.targetOf v z = s.targetOf v z ∧ StartedOrSame s t v z)
      ∧ (∀ v z, (t.trimOf v z).trim = (s.trimOf v z).trim) ∧ SameLimits s t
      ∧ (old.enabled ≠ new.enabled → Reevaluated s t (fun v => v = u || (s.tower v).enabled))
      ∧ (old.enabled = new.enabled →
          t.motion.restricted = s.motion.restricted ∧ look t.notice.records 2 = look s.notice.records 2)
      ∧ (old.keyMax ≤ new.keyMax → (∀ z, ¬ updated z) →
          t.motion.watch = s.motion.watch ∧ look t.notice.records 7 = look s.notice.records 7)
      ∧ (∀ k, k ≠ 2 → k ≠ 7 → look t.notice.records k = look s.notice.records k)
      ∧ ScanExhausted t

/-- R25, R116: an accepted Set Targets replaces the seven target fields of one record. On the RUNNING slot it also clamps the
tower's trims to the new limit, sets Trim Saturated where the clamp changed one, resets the tower's averaging and updates the
Key Target of each clamped zone that the pass has passed, which is handed on with the Dispatch Scan of a zone that becomes
PENDING (R67, R52, R80); Trim Armed, the last averages and the other towers' trims are left. -/
def Obligations.SetTargetsWritesAndClampsTrims : Prop :=
  ∀ (s : State) (f : Frame) (rest : List Frame) (j : SlotIdx) (u : TowerIdx)
    (target low high count settle limit : Nat) (mode : TrimMode),
    Waits s .setTargets f rest → target ≤ 3000 → low ≤ 500 → high ≤ 500 → 1 ≤ count → count ≤ 16 → settle ≤ 255 →
    limit ≤ 1000 →
    f.payload = byte1 j.val ++ byte1 u.val ++ byte2 target ++ byte2 low ++ byte2 high ++ byte1 count ++ byte1 settle
      ++ byte2 limit ++ byte1 mode.num →
    (look s.jobs j).inRole .armed = false →
    let new := { s.record j u with
      target := target, tolLow := low, tolHigh := high, avgCount := count, settleSheets := settle, trimLimit := limit,
      trimMode := mode }
    let clamped := fun x : Int => max (-(limit : Int)) (min limit x)
    let updated := fun z : ZoneIdx => clamped (s.trimOf u z).trim ≠ (s.trimOf u z).trim
      ∧ ((s.pass u).state = .none ∨ z.val < (s.pass u).cursor)
    ∃ t, exec .setTargets s = .next t
      ∧ Answered s f rest 0 (loadAnswer j u t) t
      ∧ JobWritten s t j (look s.jobs j).job.label (s.withRecord j u new)
      ∧ (s.isRunning j = false → OnlyChanges [.jobs, .link] s t)
      ∧ (s.runningSlot = some j →
          OnlyChanges [.jobs, .engine, .motion, .trim, .notice, .link] s t
          ∧ (∀ z, t.trimOf u z = ⟨clamped (s.trimOf u z).trim, 0, 0, (s.trimOf u z).lastAverage⟩)
          ∧ (∀ v z, v ≠ u → (t.trimOf v z).trim = (s.trimOf v z).trim
              ∧ (t.trimOf v z).lastAverage = (s.trimOf v z).lastAverage)
          ∧ (look t.trim.saturated u = true ↔
              look s.trim.saturated u = true ∨ ∃ z, clamped (s.trimOf u z).trim ≠ (s.trimOf u z).trim)
          ∧ (∀ v, v ≠ u → look t.trim.saturated v = look s.trim.saturated v) ∧ t.trim.armed = s.trim.armed
          ∧ (∀ z g, updated z → s.targetOf u z = some g →
              HandedOn s t u z { g with
                k := (max 0 (min (new.keyMax : Int)
                  (g.b + clamped (s.trimOf u z).trim + new.offsets.getD z.val 0))).toNat })
          ∧ (∀ v z, (v ≠ u ∨ ¬ updated z ∨ s.targetOf v z = none) →
              t.targetOf v z = s.targetOf v z ∧ StartedOrSame s t v z)
          ∧ t.engine.passes = s.engine.passes
          ∧ look t.notice.records 4 = look s.notice.records 4)

/-- R26, R27, R17: Load Zone Map refuses in order a field out of range (RANGE), an ARMED slot (BUSY), the RUNNING slot (STATE) and
an OPEN strip (BUSY); accepted, it replaces the map, discards the coverage array, sets Z offsets of 0 and strip state NONE. -/
def Obligations.LoadZoneMapReplacesTheMap : Prop :=
  ∀ (s : State) (f : Frame) (rest : List Frame) (j : SlotIdx) (u : TowerIdx) (zones edge width : Nat),
    Waits s .loadZoneMap f rest → zones < 256 → edge < 65536 → width < 65536 →
    f.payload = byte1 j.val ++ byte1 u.val ++ byte1 zones ++ byte2 edge ++ byte2 width →
    let inRange := 8 ≤ zones ∧ zones ≤ 48 ∧ 16 ≤ width ∧ width ≤ 4096 ∧ edge ≤ 32768 ∧ edge + zones * width ≤ 32768
    let armed := (look s.jobs j).inRole .armed = true
    let running := (look s.jobs j).inRole .running = true
    let opened := (s.record j u).strip = .opened
    let refused := fun (code : Nat) (t : State) => Answered s f rest code (loadAnswer j u s) t ∧ OnlyChanges [.link] s t
    ∃ t, exec .loadZoneMap s = .next t
      ∧ (¬ inRange → refused 3 t)
      ∧ (inRange → armed → refused 1 t)
      ∧ (inRange → running → refused 2 t)
      ∧ (inRange → ¬ armed → ¬ running → opened → refused 1 t)
      ∧ (inRange → ¬ armed → ¬ running → ¬ opened →
          Answered s f rest 0 (loadAnswer j u t) t ∧ OnlyChanges [.jobs, .link] s t
          ∧ JobWritten s t j (look s.jobs j).job.label (s.withRecord j u { s.record j u with
              zoneMap := some ⟨zones, edge, width⟩, coverage := none, offsets := List.replicate zones 0, strip := .none }))

/-- R69, R70: Set Offsets refuses in order a field out of range, an ARMED slot, a tower without a zone map (STATE) and a run
beyond the tower's zones (RANGE). Accepted, each value is written clamped to −500 to +500, the other offsets stay, the answer
adds how many the clamp changed, and on the RUNNING slot the Key Target of each written zone that the pass has passed is
updated and handed on, with the Dispatch Scan of a zone that becomes PENDING (R67, R52, R80). That a count of 0 or above 48 is
refused with the fields of R18 is the model's reading (log entry 7). -/
def Obligations.SetOffsetsWritesClampedOffsets : Prop :=
  ∀ (s : State) (f : Frame) (rest : List Frame) (j : SlotIdx) (u : TowerIdx) (first : Nat) (vals : List Int),
    Waits s .setOffsets f rest → first < 256 → vals.length < 256 → (∀ v ∈ vals, -32768 ≤ v ∧ v ≤ 32767) →
    f.payload = byte1 j.val ++ byte1 u.val ++ byte1 first ++ byte1 vals.length
      ++ vals.flatMap (fun v => byte2 (v % 65536).toNat) →
    let inRange := first ≤ 47 ∧ 1 ≤ vals.length ∧ vals.length ≤ 48
    let armed := (look s.jobs j).inRole .armed = true
    let old := s.record j u
    let clamp := fun v : Int => max (-500) (min 500 v)
    let updated := fun z : ZoneIdx => first ≤ z.val ∧ z.val < first + vals.length
      ∧ ((s.pass u).state = .none ∨ z.val < (s.pass u).cursor)
    let refused := fun (code : Nat) (t : State) => Answered s f rest code (loadAnswer j u s) t ∧ OnlyChanges [.link] s t
    ∃ t, exec .setOffsets s = .next t
      ∧ (¬ inRange → refused 3 t)
      ∧ (inRange → armed → refused 1 t)
      ∧ (inRange → ¬ armed → old.zoneMap = none → refused 2 t)
      ∧ (∀ m, inRange → ¬ armed → old.zoneMap = some m → m.zones < first + vals.length → refused 3 t)
      ∧ (∀ m, inRange → ¬ armed → old.zoneMap = some m → first + vals.length ≤ m.zones →
          ∃ offsets : List Int, offsets.length = old.offsets.length
            ∧ (∀ i, i < offsets.length → offsets.getD i 0 =
                if first ≤ i ∧ i < first + vals.length then clamp (vals.getD (i - first) 0) else old.offsets.getD i 0)
            ∧ JobWritten s t j (look s.jobs j).job.label (s.withRecord j u { old with offsets := offsets })
            ∧ Answered s f rest 0 (loadAnswer j u t ++ byte1 (vals.filter fun v => clamp v ≠ v).length) t
            ∧ (s.isRunning j = false → OnlyChanges [.jobs, .link] s t)
            ∧ (s.runningSlot = some j →
                OnlyChanges [.jobs, .engine, .motion, .trim, .notice, .link] s t
                ∧ (∀ z g, updated z → s.targetOf u z = some g →
                    HandedOn s t u z { g with
                      k := (max 0 (min (old.keyMax : Int)
                        (g.b + (s.trimOf u z).trim + offsets.getD z.val 0))).toNat })
                ∧ (∀ v z, (v ≠ u ∨ ¬ updated z ∨ s.targetOf v z = none) →
                    t.targetOf v z = s.targetOf v z ∧ StartedOrSame s t v z)
                ∧ t.engine.passes = s.engine.passes
                ∧ ∀ v z, (t.trimOf v z).trim = (s.trimOf v z).trim))

/-- R29: Clear Job refuses a slot out of range (RANGE), the RUNNING slot (IN_USE) and the ARMED slot (BUSY); an EMPTY slot stays
EMPTY, and a LOADING or READY slot becomes EMPTY with every buffer bound to a tower of the slot freed and no other. -/
def Obligations.ClearJobEmptiesAPreparedSlot : Prop :=
  ∀ (s : State) (f : Frame) (rest : List Frame) (a : Byte), Waits s .clearJob f rest → f.payload = [a] →
    let states := fun t : State => [a] ++ byte1 (look t.jobs 0).num ++ byte1 (look t.jobs 1).num
    ∃ t, exec .clearJob s = .next t
      ∧ (2 ≤ a.toNat → Answered s f rest 3 (states s) t ∧ OnlyChanges [.link] s t)
      ∧ ∀ j : SlotIdx, a.toNat = j.val →
        ((look s.jobs j).inRole .running = true → Answered s f rest 5 (states s) t ∧ OnlyChanges [.link] s t)
        ∧ ((look s.jobs j).inRole .armed = true → Answered s f rest 1 (states s) t ∧ OnlyChanges [.link] s t)
        ∧ (look s.jobs j = .empty → Answered s f rest 0 (states s) t ∧ OnlyChanges [.link] s t)
        ∧ (∀ role job, look s.jobs j = .held role job → (role = .loading ∨ role = .ready) →
            Answered s f rest 0 (states t) t ∧ OnlyChanges [.jobs, .buffers, .link] s t
            ∧ look t.jobs j = .empty ∧ (∀ i, i ≠ j → look t.jobs i = look s.jobs i)
            ∧ (∀ i b, look s.buffers i = some b → b.slot = j → look t.buffers i = none)
            ∧ (∀ i, (∀ b, look s.buffers i = some b → b.slot ≠ j) → look t.buffers i = look s.buffers i))

/-! ### Coverage strips and zone integration (chapter 3) -/

/-- R36, R37, R38, R40: Strip Open refuses in order a field out of range (RANGE), an ARMED slot (BUSY), a tower without a zone map
(STATE) and, where the strip is not OPEN, four bound buffers (NO_ROOM). Otherwise a free buffer is bound, or the bound one
restarted in place, with the carried length and order, no column received, Z accumulators of 0 and counts of 0; the coverage
array is not touched. -/
def Obligations.StripOpenBindsOrRestartsABuffer : Prop :=
  ∀ (s : State) (f : Frame) (rest : List Frame) (j : SlotIdx) (u : TowerIdx) (len order : Nat),
    Waits s .stripOpen f rest → len < 65536 → order < 256 →
    f.payload = byte1 j.val ++ byte1 u.val ++ byte2 len ++ byte1 order →
    let inRange := 1 ≤ len ∧ len ≤ 2048 ∧ order ≤ 1
    let armed := (look s.jobs j).inRole .armed = true
    let old := s.record j u
    let bound := fun t : State => ((List.finRange 4).filter fun i => (look t.buffers i).isSome).length
    let opened := fun m : ZoneMap => (⟨j, u, len, if order = 0 then .ascending else .descending,
      List.replicate len false, List.replicate m.zones 0, 0, 0, 0, 0⟩ : Buffer)
    let refused := fun (code : Nat) (t : State) =>
      Answered s f rest code (loadAnswer j u s ++ [0] ++ byte1 (bound s)) t ∧ OnlyChanges [.link] s t
    ∃ t, exec .stripOpen s = .next t
      ∧ (¬ inRange → refused 3 t)
      ∧ (inRange → armed → refused 1 t)
      ∧ (inRange → ¬ armed → old.zoneMap = none → refused 2 t)
      ∧ (inRange → ¬ armed → old.zoneMap ≠ none → old.strip ≠ .opened → (∀ i, look s.buffers i ≠ none) → refused 4 t)
      ∧ (∀ m, inRange → ¬ armed → old.zoneMap = some m → old.strip ≠ .opened → (∃ i, look s.buffers i = none) →
          Answered s f rest 0 (loadAnswer j u t ++ [0] ++ byte1 (bound t)) t ∧ OnlyChanges [.jobs, .buffers, .link] s t
          ∧ JobWritten s t j (look s.jobs j).job.label (s.withRecord j u { old with strip := .opened })
          ∧ ∃ i, look s.buffers i = none ∧ t.buffers = put s.buffers i (some (opened m)))
      ∧ (∀ m i b, inRange → ¬ armed → old.zoneMap = some m → old.strip = .opened →
          look s.buffers i = some b → b.slot = j → b.tower = u →
          Answered s f rest 0 (loadAnswer j u t ++ [1] ++ byte1 (bound t)) t ∧ OnlyChanges [.jobs, .buffers, .link] s t
          ∧ JobWritten s t j (look s.jobs j).job.label (look s.jobs j).job.towers
          ∧ ∃ k c, look s.buffers k = some c ∧ c.slot = j ∧ c.tower = u ∧ t.buffers = put s.buffers k (some (opened m)))

/-- R41, R42, R43: a Strip Segment with a count of 0 or above 96 is refused RANGE, of an ARMED slot BUSY and of a strip that is not
OPEN STATE; of an OPEN strip, its values are taken one at a time in ascending index order into the bound buffer, and the answer
adds the buffer's four counts. That a count out of range is refused with the fields of R18 is the model's reading (log entry
7). -/
def Obligations.StripSegmentIsTakenValueByValue : Prop :=
  ∀ (s : State) (f : Frame) (rest : List Frame) (j : SlotIdx) (u : TowerIdx) (start : Nat) (vals : List Nat),
    Waits s .stripSegment f rest → start < 65536 → vals.length < 256 → (∀ v ∈ vals, v < 65536) →
    f.payload = byte1 j.val ++ byte1 u.val ++ byte2 start ++ byte1 vals.length ++ vals.flatMap byte2 →
    let armed := (look s.jobs j).inRole .armed = true
    let old := s.record j u
    let refused := fun (code : Nat) (t : State) => Answered s f rest code (loadAnswer j u s) t ∧ OnlyChanges [.link] s t
    let inRange := 1 ≤ vals.length ∧ vals.length ≤ 96
    ∃ t, exec .stripSegment s = .next t
      ∧ (¬ inRange → refused 3 t)
      ∧ (inRange → armed → refused 1 t)
      ∧ (inRange → ¬ armed → old.strip ≠ .opened → refused 2 t)
      ∧ (∀ m i b, inRange → ¬ armed → old.strip = .opened → old.zoneMap = some m → s.bufferOf j u = some (i, b) →
          let after := ((List.range vals.length).foldl (fun x k => takeColumn m x (start + k) (vals.getD k 0)) b)
          t.buffers = put s.buffers i (some after)
          ∧ Answered s f rest 0 (loadAnswer j u t ++ byte2 after.receivedCount ++ byte2 after.duplicateCount
              ++ byte2 after.excessCount ++ byte2 after.clampedCount) t
          ∧ JobWritten s t j (look s.jobs j).job.label (look s.jobs j).job.towers
          ∧ OnlyChanges [.jobs, .buffers, .link] s t)

/-- R42, R44, R45: a column value with strip index i is excess at or beyond L, a duplicate where i has been received, and else
clamped to 1000 and integrated: the accumulator of each zone gains the value once for each sixteenth of the physical column that
lies in the zone, counted here one by one. -/
def Obligations.ColumnValuesAreIntegratedByOverlap : Prop :=
  ∀ (m : ZoneMap) (b : Buffer) (i v : Nat), b.received.length = b.length →
    let c := match b.order with
      | .ascending => i
      | .descending => b.length - 1 - i
    let sixteenths := fun z : Nat => ((List.range 16).filter fun k =>
      m.edge + z * m.width ≤ 16 * c + k && 16 * c + k < m.edge + (z + 1) * m.width).length
    let b' := takeColumn m b i v
    (b.length ≤ i → b' = { b with excessCount := min 65535 (b.excessCount + 1) })
    ∧ (i < b.length → b.received.getD i false = true →
        b' = { b with duplicateCount := min 65535 (b.duplicateCount + 1) })
    ∧ (i < b.length → b.received.getD i false = false →
        b'.acc.length = b.acc.length
        ∧ (∀ z, z < b.acc.length → b'.acc.getD z 0 = b.acc.getD z 0 + min v 1000 * sixteenths z)
        ∧ b'.received.length = b.length
        ∧ (∀ k, k < b.length → b'.received.getD k false = if k = i then true else b.received.getD k false)
        ∧ b'.receivedCount = min 65535 (b.receivedCount + 1)
        ∧ b'.clampedCount = (if 1000 < v then min 65535 (b.clampedCount + 1) else b.clampedCount)
        ∧ b' = { b with acc := b'.acc, received := b'.received, receivedCount := b'.receivedCount,
                        clampedCount := b'.clampedCount })

/-- R44: the same plate scanned in the two orders, its values sent in the two corresponding orders, gives the same zone
accumulators, and so the same coverage array. -/
def Obligations.ScanOrdersGiveTheSameCoverage : Prop :=
  ∀ (m : ZoneMap) (j : SlotIdx) (u : TowerIdx) (vals : List Nat),
    let up := takeColumns m (.fresh j u vals.length .ascending m.zones) 0 vals
    let down := takeColumns m (.fresh j u vals.length .descending m.zones) 0 vals.reverse
    up.acc = down.acc ∧ up.coverage m = down.coverage m ∧ up.receivedCount = down.receivedCount

/-- R46, R47, R48: a Strip Close of a strip that is not OPEN is refused STATE. Accepted, it makes the coverage array of
accumulators over W rounded half up, frees the buffer, sets the strip CLOSED, re-evaluates readiness and, on an enabled tower of
the running job, is a Pass Cause; the answer adds received, missing, duplicate and excess. -/
def Obligations.StripCloseMakesTheCoverageArray : Prop :=
  ∀ (s : State) (f : Frame) (rest : List Frame) (j : SlotIdx) (u : TowerIdx),
    Waits s .stripClose f rest → f.payload = byte1 j.val ++ byte1 u.val →
    let armed := (look s.jobs j).inRole .armed = true
    let old := s.record j u
    let refused := fun (code : Nat) (t : State) => Answered s f rest code (loadAnswer j u s) t ∧ OnlyChanges [.link] s t
    ∃ t, exec .stripClose s = .next t
      ∧ (armed → refused 1 t)
      ∧ (¬ armed → old.strip ≠ .opened → refused 2 t)
      ∧ (∀ m i b, ¬ armed → old.strip = .opened → old.zoneMap = some m → s.bufferOf j u = some (i, b) →
          let coverage := b.acc.map fun a => (2 * a + m.width) / (2 * m.width)
          let new := { old with coverage := some coverage, strip := .closed }
          t.buffers = put s.buffers i none
          ∧ Answered s f rest 0 (loadAnswer j u t ++ byte2 b.receivedCount ++ byte2 (b.length - b.receivedCount)
              ++ byte2 b.duplicateCount ++ byte2 b.excessCount) t
          ∧ JobWritten s t j (look s.jobs j).job.label (s.withRecord j u new)
          ∧ ((s.isRunning j = false ∨ old.enabled = false) → OnlyChanges [.jobs, .buffers, .link] s t)
          ∧ (s.runningSlot = some j → old.enabled = true →
              OnlyChanges [.jobs, .buffers, .engine, .link] s t
              ∧ t.engine.targets = s.engine.targets
              ∧ t.pass u = (s.pass u).caused (towerReady s.library new)
                  (some ((2 * coverage.sum + m.zones) / (2 * m.zones)))
              ∧ ∀ v, v ≠ u → t.pass v = s.pass v))

/-! ### Key target computation (chapter 4) -/

/-- R56, R57, R58, R59, R52: a Zone Computation that does not complete the pass writes E, B and K of the zone at the cursor, each
by its stage arithmetic, hands K to the Motion Scheduler and advances the cursor by one; where that made the zone PENDING a
Dispatch Scan follows at once (R80; that it does so here is the model's reading, log entry 9), and no notice but a SETTLED of
the handing on is raised. Every other zone's targets, every other pass record and every trim stay, and no other zone moves but
by the scan. -/
def Obligations.ZoneComputationWritesTheZone : Prop :=
  ∀ (s : State) (u : TowerIdx) (z : ZoneIdx) (m : ZoneMap) (c : List Nat) (key : CurveIdx) (y : Nat),
    let r := s.tower u
    let own := c.getD z.val 0
    let left := if z.val = 0 then own else c.getD (z.val - 1) 0
    let sum := r.sideWeight * left + (256 - 2 * r.sideWeight) * own + r.sideWeight * c.getD (z.val + 1) 0
    let e := (2 * sum + 256) / 512
    let b := min 4095 ((2 * (y * r.scale) + 1024) / 2048)
    let k := (max 0 (min (r.keyMax : Int) (b + (s.trimOf u z).trim + r.offsets.getD z.val 0))).toNat
    (s.pass u).state = .active → (s.pass u).cursor = z.val → z.val + 1 < m.zones →
    r.zoneMap = some m → r.coverage = some c → c.length = m.zones → r.keyCurve = some key →
    curveEvaluation s.library .key key e = some y →
    ∃ t, exec (.zoneComputation u) s = .next t
      ∧ OnlyChanges [.engine, .motion, .trim, .notice] s t
      ∧ HandedOn s t u z ⟨e, b, k⟩
      ∧ (∀ v x, (v, x) ≠ (u, z) → t.targetOf v x = s.targetOf v x ∧ StartedOrSame s t v x)
      ∧ t.pass u = { s.pass u with cursor := z.val + 1 } ∧ (∀ v, v ≠ u → t.pass v = s.pass v)
      ∧ (∀ v x, (t.trimOf v x).trim = (s.trimOf v x).trim ∧ (t.trimOf v x).lastAverage = (s.trimOf v x).lastAverage)
      ∧ t.motion.watch = (handTarget u z k s).motion.watch ∧ t.notice = (handTarget u z k s).notice

/-- R61, R62, R57, R96, R130: the Zone Computation of the last zone writes E, B and K, hands K to the Motion Scheduler, with the
Dispatch Scan of a zone that becomes PENDING (R52, R74, R80; that it is made here is the model's reading, log entry 9), and
completes the pass. A computed sweep that differs from the tower sweep replaces the queued SWEEP of the tower or is appended, an
equal one is not handed on, and without a sweep curve the tower sweep becomes absent. The Settle Watch is set, or SETTLED raised
where the tower is at rest; the tower leaves the Hold Tower Set, and the emptying of the set raises CHANGEOVER_DONE; a set rerun
flag begins a new pass if the tower is ready, and else the state becomes NONE. Every trim stays. -/
def Obligations.LastZoneCompletesThePass : Prop :=
  ∀ (s : State) (u : TowerIdx) (z : ZoneIdx) (m : ZoneMap) (c : List Nat) (key : CurveIdx) (y : Nat) (mean : Nat)
    (sweep : Option Nat),
    let r := s.tower u
    let p := s.pass u
    let own := c.getD z.val 0
    let left := if z.val = 0 then own else c.getD (z.val - 1) 0
    let sum := r.sideWeight * left + (256 - 2 * r.sideWeight) * own + r.sideWeight * own
    let b := min 4095 ((2 * (y * r.scale) + 1024) / 2048)
    let k := (max 0 (min (r.keyMax : Int) (b + (s.trimOf u z).trim + r.offsets.getD z.val 0))).toNat
    let ended : TowerPass := ⟨.none, m.zones, false, p.mean, sweep⟩
    let sweeps := fun t : State => t.motion.queue.filter (DriveEntry.isSweepOf u)
    p.state = .active → p.cursor = z.val → z.val + 1 = m.zones → p.mean = some mean →
    r.zoneMap = some m → r.coverage = some c → c.length = m.zones → r.keyCurve = some key →
    curveEvaluation s.library .key key ((2 * sum + 256) / 512) = some y →
    ((r.sweepCurve = none ∧ sweep = none)
      ∨ ∃ sc v, r.sweepCurve = some sc ∧ curveEvaluation s.library .sweep sc mean = some v ∧ v ≤ 1000 ∧ sweep = some v) →
    ∃ t, exec (.zoneComputation u) s = .next t
      ∧ OnlyChanges [.engine, .motion, .trim, .cycle, .notice] s t
      ∧ HandedOn s t u z ⟨(2 * sum + 256) / 512, b, k⟩
      ∧ (∀ v x, (v, x) ≠ (u, z) → t.targetOf v x = s.targetOf v x ∧ StartedOrSame s t v x)
      ∧ (∀ v x, (t.trimOf v x).trim = (s.trimOf v x).trim ∧ (t.trimOf v x).lastAverage = (s.trimOf v x).lastAverage)
      ∧ ((p.rerun = true ∧ look s.running.ready u = true) →
          t.pass u = { ended with state := .active, cursor := 0,
                                  mean := some ((2 * c.sum + m.zones) / (2 * m.zones)) })
      ∧ ((p.rerun = false ∨ look s.running.ready u = false) → t.pass u = ended)
      ∧ (∀ v, v ≠ u → t.pass v = s.pass v)
      ∧ ((sweep = none ∨ sweep = p.sweep) → sweeps t = sweeps s)
      ∧ (∀ v, sweep = some v → sweep ≠ p.sweep → sweeps s = [] → sweeps t = [.sweep u v])
      ∧ (∀ v, sweep = some v → sweep ≠ p.sweep → sweeps s ≠ [] → sweeps t = (sweeps s).map fun _ => .sweep u v)
      ∧ (let handed := handTarget u z k s
        SettleTested (handed.setMotion { handed.motion with watch := put s.motion.watch u true }) t u)
      ∧ (∀ i, i ≠ 1 → i ≠ 7 → look t.notice.records i = look s.notice.records i)
      ∧ t.cycle = { s.cycle with hold := put s.cycle.hold u false }
      ∧ (look s.cycle.hold u = true → (∀ v, v ≠ u → look s.cycle.hold v = false) →
          look t.notice.records 1
            = some (mergeNotice (look s.notice.records 1) none .absent s.cycle.sheetCount))
      ∧ ((look s.cycle.hold u = false ∨ ∃ v, v ≠ u ∧ look s.cycle.hold v = true) →
          look t.notice.records 1 = look s.notice.records 1)

/-! ### Key motion (chapter 5) -/

/-- R74, R84, R85, R86: what a zone's motion fields become when a Key Target k is handed on, state by state; every other zone, the
in-flight counts, the limits, Restricted Motion and the round-robin pointer stay. A changed motion state is followed by the
tower's Settle Watch test (R96), and nothing else raises a notice. -/
def Obligations.KeyTargetHandedOnByState : Prop :=
  ∀ (s : State) (u : TowerIdx) (z : ZoneIdx) (k : Nat),
    let t := handTarget u z k s
    let w := s.zone u z
    let near := ∃ a, w.actual = some a ∧ |(k : Int) - a| ≤ (s.tower u).deadband
    let resting := w.state = .noTarget ∨ w.state = .atTarget ∨ w.state = .pending
    let moving := w.state = .moving ∨ w.state = .retry
    let inPhase := (s.tower u).movePhases.has s.cycle.phase = true
    let queued := ∃ g tag, DriveEntry.move u z g tag ∈ s.motion.queue
    OnlyChanges [.motion, .notice] s t
    ∧ (∀ v x, (v, x) ≠ (u, z) → t.zone v x = s.zone v x)
    ∧ t.motion = { s.motion with zones := t.motion.zones, queue := t.motion.queue, watch := t.motion.watch }
    ∧ ((t.zone u z).state ≠ w.state → SettleTested s t u)
    ∧ ((t.zone u z).state = w.state → t.motion.watch = s.motion.watch ∧ t.notice = s.notice)
    ∧ (∀ i, i ≠ 7 → look t.notice.records i = look s.notice.records i)
    ∧ t.notice = { s.notice with records := t.notice.records }
    ∧ (resting → near → t.zone u z = { w with state := .atTarget } ∧ t.motion.queue = s.motion.queue)
    ∧ (resting → ¬ near → t.zone u z = { w with state := .pending } ∧ t.motion.queue = s.motion.queue)
    ∧ (w.state = .faulted → t = s)
    ∧ (moving → (w.commanded = some k ∨ ¬ inPhase) → t = s)
    ∧ (moving → w.commanded ≠ some k → inPhase → queued →
        t.zone u z = { w with commanded := some k, timer := none } ∧ t.notice = s.notice
        ∧ t.motion.queue = s.motion.queue.map fun e => match e with
          | .move v x g tag => if v = u ∧ x = z then .move v x k tag else .move v x g tag
          | .sweep v x => .sweep v x)
    ∧ (moving → w.commanded ≠ some k → inPhase → ¬ queued →
        t.zone u z = { w with commanded := some k, timer := none, tag := w.tag + 1 } ∧ t.notice = s.notice
        ∧ t.motion.queue = s.motion.queue ++ [.move u z k (w.tag + 1)])

/-- R79, R80, R81: a step of a Dispatch Scan serves the first eligible tower from the round-robin pointer on, starts its farthest
PENDING zone, the lowest-numbered of equals, and moves the pointer past the tower; there is none where no tower is eligible. A
whole scan is these steps, one after the other, until the Motion Cap is reached or there is none: it never passes the cap,
changes no zone but those it starts, and appends the MOVE of each zone started and nothing else. The scan of an event
that hands on Key Targets or clears faults is made exactly where a zone has become PENDING in it. -/
def Obligations.DispatchScanServesTowersInTurn : Prop :=
  (∀ s t : State, scanStep s = some t →
    ∃ (u : TowerIdx) (z : ZoneIdx) (g : Target),
      s.eligible u = true ∧ (∀ v : TowerIdx, s.eligible v = true → u - s.motion.pointer ≤ v - s.motion.pointer)
      ∧ (s.zone u z).state = .pending ∧ s.targetOf u z = some g
      ∧ (∀ x h, (s.zone u x).state = .pending → s.targetOf u x = some h →
          s.toGo u x h.k < s.toGo u z g.k ∨ (s.toGo u x h.k = s.toGo u z g.k ∧ z ≤ x))
      ∧ t.zone u z = { s.zone u z with state := .moving, commanded := some g.k, tag := (s.zone u z).tag + 1 }
      ∧ (∀ v x, (v, x) ≠ (u, z) → t.zone v x = s.zone v x)
      ∧ t.motion = { s.motion with
          zones := t.motion.zones, pointer := u + 1
          inFlight := put s.motion.inFlight u (look s.motion.inFlight u + 1)
          pressInFlight := s.motion.pressInFlight + 1
          queue := s.motion.queue ++ [.move u z g.k ((s.zone u z).tag + 1)] }
      ∧ t.trimOf u z = { s.trimOf u z with sum := 0, count := 0 }
      ∧ (∀ v x, (v, x) ≠ (u, z) → t.trimOf v x = s.trimOf v x)
      ∧ OnlyChanges [.motion, .trim] s t)
  ∧ (∀ (s : State) (u : TowerIdx), s.eligible u = true ↔
      (∃ z g, (s.zone u z).state = .pending ∧ s.targetOf u z = some g)
      ∧ (s.tower u).movePhases.has s.cycle.phase = true
      ∧ look s.motion.inFlight u < (if s.motion.restricted then 1 else look s.motion.concurrency u))
  ∧ (∀ s : State, scanStep s = none ↔ ∀ u, s.eligible u = false)
  ∧ (∀ s : State, (s.motion.cap ≤ s.motion.pressInFlight ∨ scanStep s = none) → dispatchScan s = s)
  ∧ (∀ s s' : State, s.motion.pressInFlight < s.motion.cap → scanStep s = some s' → dispatchScan s = dispatchScan s')
  ∧ (∀ b s : State,
    ((∃ u z, (s.zone u z).state = .pending ∧ (b.zone u z).state ≠ .pending) → scanIfPending b s = dispatchScan s)
    ∧ ((∀ u z, (s.zone u z).state = .pending → (b.zone u z).state = .pending) → scanIfPending b s = s))
  ∧ ∀ s : State,
    let t := dispatchScan s
    ScanExhausted t ∧ OnlyChanges [.motion, .trim] s t
    ∧ t.motion.pressInFlight ≤ max s.motion.pressInFlight s.motion.cap
    ∧ (∀ u, look t.motion.inFlight u ≤ max (look s.motion.inFlight u) (s.effective u))
    ∧ (∀ u z, StartedOrSame s t u z)
    ∧ ∃ moves, t.motion.queue = s.motion.queue ++ moves ∧ moves.Nodup
        ∧ t.motion.pressInFlight = s.motion.pressInFlight + moves.length
        ∧ ∀ e, e ∈ moves ↔ ∃ u z g, (s.zone u z).state = .pending ∧ (t.zone u z).state = .moving
            ∧ s.targetOf u z = some g ∧ e = .move u z g.k ((s.zone u z).tag + 1)

/-- R83, R82: Set Motion Limits refuses a limit out of range and else replaces all fourteen, re-evaluates Restricted Motion over
the running job's enabled towers, raises MOTION_RESTRICTED on entering it alone, makes a Dispatch Scan and answers the limits in
force; a running timer keeps its expiry. -/
def Obligations.SetMotionLimitsReplacesTheLimits : Prop :=
  ∀ (s : State) (f : Frame) (rest : List Frame) (cap timeout : Nat) (limit : TowerIdx → Nat),
    Waits s .setMotionLimits f rest → cap < 256 → timeout < 256 → (∀ u, limit u < 256) →
    f.payload = byte1 cap ++ byte1 timeout ++ allTowers.flatMap (fun u => byte1 (limit u)) →
    let inRange := 1 ≤ cap ∧ cap ≤ 32 ∧ 1 ≤ timeout ∧ ∀ u, 1 ≤ limit u ∧ limit u ≤ 8
    let sum := (allTowers.map fun u => if (s.tower u).enabled then limit u else 0).sum
    ∃ t, exec .setMotionLimits s = .next t
      ∧ (¬ inRange → Answered s f rest 3 [] t ∧ OnlyChanges [.link] s t)
      ∧ (inRange →
          Answered s f rest 0 (f.payload ++ [if cap < sum then 1 else 0]) t
          ∧ OnlyChanges [.motion, .trim, .notice, .link] s t
          ∧ t.motion.cap = cap ∧ t.motion.timeout = timeout ∧ (∀ u, look t.motion.concurrency u = limit u)
          ∧ (t.motion.restricted = true ↔ cap < sum)
          ∧ ((cap < sum ∧ s.motion.restricted = false) →
              t.notice = (raise .motionRestricted none .absent s).notice)
          ∧ (¬ (cap < sum ∧ s.motion.restricted = false) → t.notice = s.notice)
          ∧ (∀ u z, StartedOrSame s t u z) ∧ ScanExhausted t)

/-- R94: Clear Key Fault refuses a tower or zone out of range, then a zone that is not FAULTED or a tower with none. Accepted, each
FAULTED zone named has its position made UNKNOWN and becomes PENDING, and may be started at once, where K is defined and
NO_TARGET where it is absent; a Dispatch Scan follows when one has become PENDING. A tower with a zone still in PENDING, MOVING
or RETRY, or with its Settle Watch clear, raises no SETTLED (R96), and no other notice is raised. -/
def Obligations.ClearKeyFaultClearsFaultedZones : Prop :=
  ∀ (s : State) (f : Frame) (rest : List Frame) (a b : Byte), Waits s .clearKeyFault f rest → f.payload = [a, b] →
    ∃ t, exec .clearKeyFault s = .next t
      ∧ ((12 ≤ a.toNat ∨ (48 ≤ b.toNat ∧ b ≠ 0xFF)) → Answered s f rest 3 [] t ∧ OnlyChanges [.link] s t)
      ∧ ∀ u : TowerIdx, a.toNat = u.val → (b.toNat < 48 ∨ b = 0xFF) →
        let cleared := fun z : ZoneIdx => (s.zone u z).state = .faulted ∧ (b = 0xFF ∨ b.toNat = z.val)
        ((∀ z, ¬ cleared z) → Answered s f rest 2 [] t ∧ OnlyChanges [.link] s t)
        ∧ ((∃ z, cleared z) →
            OnlyChanges [.motion, .trim, .notice, .link] s t
            ∧ Answered s f rest 0 ([a] ++ byte1 (allZones.filter fun z =>
                (s.zone u z).state = .faulted && (b == 0xFF || b.toNat == z.val)).length) t
            ∧ (∀ z, cleared z → s.targetOf u z = none →
                t.zone u z = { s.zone u z with state := .noTarget, actual := none })
            ∧ (∀ z g, cleared z → s.targetOf u z = some g →
                t.zone u z = { s.zone u z with state := .pending, actual := none }
                ∨ t.zone u z = { s.zone u z with
                    state := .moving, actual := none, commanded := some g.k, tag := (s.zone u z).tag + 1 })
            ∧ (∀ v z, (v ≠ u ∨ ¬ cleared z) → StartedOrSame s t v z)
            ∧ ((look s.motion.watch u = false
                ∨ ∃ x, (s.zone u x).state = .pending ∨ (s.zone u x).state = .moving ∨ (s.zone u x).state = .retry) →
              t.motion.watch = s.motion.watch ∧ t.notice = s.notice)
            ∧ (∀ k, k ≠ 7 → look t.notice.records k = look s.notice.records k)
            ∧ ((∃ z, cleared z ∧ s.targetOf u z ≠ none) → ScanExhausted t))

/-- R87, R88, R89, R90, R95: a Key Report out of range is discarded whole. Any other records the position, at most 4095; one that
does not match its zone (not in MOVING or RETRY, another tag, or its MOVE still queued) does nothing else. A matching ARRIVED
report stops the timer, frees the place, makes the commanded target absent, sets settle-until and the motion state by K and the
position, and a Dispatch Scan may start the zone again; a matching STALLED report faults the zone and raises KEY_FAULT. Both are
followed by the tower's Settle Watch test, which raises SETTLED exactly where the watch is set and no zone of the tower is left
in PENDING, MOVING or RETRY (R96). -/
def Obligations.KeyReportsRecordAndEndMoves : Prop :=
  ∀ (s : State) (f : Frame) (u : TowerIdx) (key tag high low status : Byte),
    s.link.resetHeld = false → f.kind = 0x48 → f.src.toNat = 0x10 + u.val → f.payload = [key, tag, high, low, status] →
    let position := min 4095 (high.toNat * 256 + low.toNat)
    let run := exec (.portDFrameReceived f.bytes) s
    ((48 ≤ key.toNat ∨ 1 < status.toNat) → run = .next s)
    ∧ ∀ z : ZoneIdx, key.toNat = z.val → status.toNat ≤ 1 →
      let w := s.zone u z
      let matching := (w.state = .moving ∨ w.state = .retry) ∧ w.tag = tag
        ∧ ∀ g n, DriveEntry.move u z g n ∉ s.motion.queue
      (¬ matching → run = .next (s.putZone u z { w with actual := some position }))
      ∧ (matching → ∃ t, run = .next t ∧ OnlyChanges [.motion, .trim, .notice] s t
          ∧ SettleTested s t u
          ∧ (∀ k, k ≠ 0 → k ≠ 7 → look t.notice.records k = look s.notice.records k)
          ∧ (status.toNat = 0 → look t.notice.records 0 = look s.notice.records 0)
          ∧ (∀ v x, (v, x) ≠ (u, z) → StartedOrSame s t v x)
          ∧ ScanExhausted t
          ∧ (∃ moves, t.motion.queue = s.motion.queue ++ moves
              ∧ t.motion.pressInFlight = s.motion.pressInFlight - 1 + moves.length)
          ∧ (status.toNat = 0 →
              let near := fun g : Target => |(g.k : Int) - position| ≤ (s.tower u).deadband
              let ended := { w with
                actual := some position, timer := none, commanded := none
                settleUntil := min 4294967295 (s.cycle.sheetCount + (s.tower u).settleSheets) }
              (s.targetOf u z = none → t.zone u z = { ended with state := .noTarget })
              ∧ (∀ g, s.targetOf u z = some g → near g → t.zone u z = { ended with state := .atTarget })
              ∧ (∀ g, s.targetOf u z = some g → ¬ near g →
                  t.zone u z = { ended with state := .pending }
                  ∨ t.zone u z = { ended with state := .moving, commanded := some g.k, tag := w.tag + 1 }))
          ∧ (status.toNat = 1 →
              t.zone u z = { w with state := .faulted, actual := some position, timer := none, commanded := none }
              ∧ look t.notice.records 0
                = some (mergeNotice (look s.notice.records 0) (some u) (.zone u z) s.cycle.sheetCount)))

/-- R91, R92, R93: a Move Timeout from MOVING makes the zone RETRY with a new tag and queues a MOVE with the same target; from RETRY
it faults the zone, frees its place, raises KEY_FAULT, makes the tower's Settle Watch test (R96) and a Dispatch Scan. The timer
is stopped in both. A zone whose timer is stopped has no expiry; the time base then stands at the expiry or beyond (the model's
choices, log entries 2 and 4). -/
def Obligations.MoveTimeoutRetriesThenFaults : Prop :=
  ∀ (s : State) (u : TowerIdx) (z : ZoneIdx),
    let w := s.zone u z
    (w.timer = none → exec (.moveTimeout u z) s = .next s)
    ∧ ∀ expiry, w.timer = some expiry →
      (∀ g, w.state = .moving → w.commanded = some g →
        ∃ t, exec (.moveTimeout u z) s = .next t ∧ OnlyChanges [.motion, .clock] s t
          ∧ t.clock = max s.clock expiry
          ∧ t.zone u z = { w with state := .retry, tag := w.tag + 1, timer := none }
          ∧ (∀ v x, (v, x) ≠ (u, z) → t.zone v x = s.zone v x)
          ∧ t.motion = { s.motion with
              zones := t.motion.zones, queue := s.motion.queue ++ [.move u z g (w.tag + 1)] })
      ∧ (w.state = .retry →
        ∃ t, exec (.moveTimeout u z) s = .next t ∧ OnlyChanges [.motion, .trim, .notice, .clock] s t
          ∧ t.clock = max s.clock expiry
          ∧ t.zone u z = { w with state := .faulted, timer := none, commanded := none }
          ∧ SettleTested s t u
          ∧ (∀ k, k ≠ 0 → k ≠ 7 → look t.notice.records k = look s.notice.records k)
          ∧ (∀ v x, (v, x) ≠ (u, z) → StartedOrSame s t v x)
          ∧ ScanExhausted t
          ∧ (∃ moves, t.motion.queue = s.motion.queue ++ moves
              ∧ t.motion.pressInFlight = s.motion.pressInFlight - 1 + moves.length)
          ∧ look t.notice.records 0
            = some (mergeNotice (look s.notice.records 0) (some u) (.zone u z) s.cycle.sheetCount))

/-! ### Density trim (chapter 6) -/

/-- R109, R110: the membership of a band is 255 at its peak, falls linearly, rounded down, over each spread that is not 0, stays 255
above the peak of a band without a right spread and is 0 elsewhere. The trim step is the membership-weighted mean of the band
steps, half up, and lies between the steps of the bands it belongs to; where the memberships sum to 0 there is none. -/
def Obligations.TrimStepFollowsTheBands : Prop :=
  (∀ (w : Band) (x : Nat),
    let m : Int := w.membership x
    (x = w.peak → m = 255)
    ∧ (x < w.peak → 0 < w.left → w.peak ≤ x + w.left → m = 255 * ((x : Int) - (w.peak - w.left)) / w.left)
    ∧ (x < w.peak → (w.left = 0 ∨ x + w.left < w.peak) → m = 0)
    ∧ (w.peak < x → w.right = 0 → m = 255)
    ∧ (w.peak < x → 0 < w.right → x ≤ w.peak + w.right → m = 255 * ((w.peak : Int) + w.right - x) / w.right)
    ∧ (w.peak + w.right < x → 0 < w.right → m = 0)
    ∧ m ≤ 255)
  ∧ ∀ (u : Trim) (x : Nat),
    let bands := [u.small, u.medium, u.large]
    let weight := (bands.map fun w => w.membership x).sum
    let total := (bands.map fun w => w.membership x * w.step).sum
    (weight = 0 → u.stepAt x = none)
    ∧ (weight ≠ 0 → u.stepAt x = some ((2 * total + weight) / (2 * weight))
        ∧ ∀ lo hi, (∀ w ∈ bands, 0 < w.membership x → lo ≤ w.step ∧ w.step ≤ hi) →
            lo ≤ (2 * total + weight) / (2 * weight) ∧ (2 * total + weight) / (2 * weight) ≤ hi)

/-- R104, R105, R106: a reading of 65535 is skipped; any other is discarded by one of the five conditions, which resets its zone's
averaging, or counted, clamped to 3000. The reading that brings the count to N forms the average, half up, written as the last
average with the averaging reset, and the window test is made on it; a zone it made PENDING is offered to dispatch (log entry
9). -/
def Obligations.ReadingsAreSkippedDiscardedOrCounted : Prop :=
  ∀ (s : State) (u : TowerIdx) (z : ZoneIdx) (arrival v : Nat),
    let r := s.tower u
    let x := s.trimOf u z
    let sum := x.sum + min v 3000
    let discarded := r.enabled = false ∨ (∀ m, r.zoneMap = some m → m.zones ≤ z.val)
      ∨ r.trimPhases.has s.cycle.phase = false ∨ (s.zone u z).state ≠ .atTarget ∨ arrival < (s.zone u z).settleUntil
    let avg := (2 * sum + r.avgCount) / (2 * r.avgCount)
    let formed := windowTest u z avg (s.putTrim u z { x with sum := 0, count := 0, lastAverage := some avg })
    (v = 65535 → takeReading u z arrival v s = (s, false))
    ∧ (v ≠ 65535 → discarded → takeReading u z arrival v s = (s.putTrim u z { x with sum := 0, count := 0 }, false))
    ∧ (v ≠ 65535 → ¬ discarded → x.count + 1 < r.avgCount →
        takeReading u z arrival v s = (s.putTrim u z { x with sum := sum, count := x.count + 1 }, false))
    ∧ (v ≠ 65535 → ¬ discarded → x.count + 1 = r.avgCount →
        takeReading u z arrival v s = (scanIfPending s formed.1, formed.2))

/-- R107, R110, R111, R67: an average in the window changes nothing. Out of it, a disarmed tower or a deviation beyond every band
raises DENSITY_OUT alone, and a step of 0 does nothing. Any other step moves the trim against the deviation's sign, held within
the trim limit; a clamp that changed it raises TRIM_LIMIT and sets Trim Saturated; a changed trim updates the Key Target where
the pass has passed the zone and hands it to the Motion Scheduler (R52, R74), with the SETTLED that may raise and no other
notice. -/
def Obligations.AverageOutOfWindowMovesTheTrim : Prop :=
  ∀ (s : State) (u : TowerIdx) (z : ZoneIdx) (avg : Nat),
    let r := s.tower u
    let d : Int := (avg : Int) - r.target
    let size := (avg - r.target) + (r.target - avg)
    let inWindow := -(r.tolLow : Int) ≤ d ∧ d ≤ r.tolHigh
    let armed := look s.trim.armed u = true
    let reported := (raise .densityOut (some u) (.zone u z) s, false)
    let old := (s.trimOf u z).trim
    (inWindow → windowTest u z avg s = (s, false))
    ∧ (¬ inWindow → ¬ armed → windowTest u z avg s = reported)
    ∧ (¬ inWindow → armed → s.trim.stepAt size = none → windowTest u z avg s = reported)
    ∧ (¬ inWindow → armed → s.trim.stepAt size = some 0 → windowTest u z avg s = (s, false))
    ∧ ∀ n, ¬ inWindow → armed → s.trim.stepAt size = some n → n ≠ 0 →
      let wanted := if 0 < d then old - n else old + n
      let new := max (-(r.trimLimit : Int)) (min r.trimLimit wanted)
      let passed := (s.pass u).state = .none ∨ z.val < (s.pass u).cursor
      ∃ t, windowTest u z avg s = (t, true) ∧ OnlyChanges [.engine, .motion, .trim, .notice] s t
        ∧ t.trimOf u z = { s.trimOf u z with trim := new }
        ∧ (∀ v y, (v, y) ≠ (u, z) → t.trimOf v y = s.trimOf v y)
        ∧ (look t.trim.saturated u = true ↔ look s.trim.saturated u = true ∨ new ≠ wanted)
        ∧ t.trim = { s.trim with zones := t.trim.zones, saturated := put s.trim.saturated u (look t.trim.saturated u) }
        ∧ (new = wanted → look t.notice.records 4 = look s.notice.records 4)
        ∧ (new ≠ wanted → look t.notice.records 4
            = some (mergeNotice (look s.notice.records 4) (some u) (.zone u z) s.cycle.sheetCount))
        ∧ (new = old → t.engine = s.engine ∧ t.motion = s.motion)
        ∧ (∀ g, new ≠ old → s.targetOf u z = some g → passed →
            let k := (max 0 (min (r.keyMax : Int) (g.b + new + r.offsets.getD z.val 0))).toNat
            t.targetOf u z = some { g with k := k } ∧ t.motion = (handTarget u z k s).motion
              ∧ look t.notice.records 7 = look (handTarget u z k s).notice.records 7)
        ∧ ((¬ passed ∨ s.targetOf u z = none) → t.engine = s.engine ∧ t.motion = s.motion)
        ∧ (∀ v y, (v, y) ≠ (u, z) → t.targetOf v y = s.targetOf v y)
        ∧ t.engine.passes = s.engine.passes
        ∧ (t.motion = s.motion → look t.notice.records 7 = look s.notice.records 7)
        ∧ ∀ k, k ≠ 4 → k ≠ 7 → look t.notice.records k = look s.notice.records k

/-- R103, R112: the Trim Unit takes the oldest Density frame of the M Receive Queue. A frame with a field out of range, or a number
of readings other than its count, is discarded whole. Of any other, each reading is taken in ascending zone order against the
frame's Arrival Sheet Count, and then a SINGLE tower that made a non-zero step is disarmed. With the queue empty, and for a
payload that is no list of readings, see log entries 2 and 14. -/
def Obligations.DensityFramesAreTakenReadingByReading : Prop :=
  ∀ s : State, (s.link.mReceive = [] → exec .densityFrameTaken s = .next s)
    ∧ ∀ f arrival rest, s.link.mReceive = (f, arrival) :: rest →
      let s1 := s.setLink { s.link with mReceive := rest }
      ((f.payload.length < 3 ∨ f.payload.length % 2 = 0) → exec .densityFrameTaken s = .next s1)
      ∧ ∀ (a first n : Byte) (vals : List Nat), f.payload = [a, first, n] ++ vals.flatMap byte2 → (∀ v ∈ vals, v < 65536) →
        let ok := a.toNat < 12 ∧ first.toNat ≤ 47 ∧ 1 ≤ n.toNat ∧ n.toNat ≤ 48 ∧ first.toNat + n.toNat ≤ 48
          ∧ vals.length = n.toNat
        (¬ ok → exec .densityFrameTaken s = .next s1)
        ∧ ∀ u : TowerIdx, ok → a.toNat = u.val →
          let zones := allZones.filter fun z => first.toNat ≤ z.val && z.val < first.toNat + n.toNat
          let r := zones.foldl (fun (q : State × Bool) z =>
            let x := takeReading u z arrival (vals.getD (z.val - first.toNat) 0) q.1
            (x.1, q.2 || x.2)) (s1, false)
          exec .densityFrameTaken s = .next
            (if (s.tower u).trimMode = .single ∧ r.2 = true then
              r.1.setTrim { r.1.trim with armed := put r.1.trim.armed u false }
            else r.1)

/-- R113, R115: Arm Trim and Load Trim Bands refuse a field out of range and else write Trim Armed of the named towers, or all three
bands at once, and no other trim state; their answers carry what is then in force. -/
def Obligations.ArmTrimAndTrimBandsAreWritten : Prop :=
  (∀ (s : State) (f : Frame) (rest : List Frame) (a b : Byte), Waits s .armTrim f rest → f.payload = [a, b] →
    let inRange := (a.toNat < 12 ∨ a = 0xFF) ∧ b.toNat ≤ 1
    ∃ t, exec .armTrim s = .next t
      ∧ (¬ inRange → Answered s f rest 3 [] t ∧ OnlyChanges [.link] s t)
      ∧ (inRange →
          OnlyChanges [.trim, .link] s t ∧ t.trim = { s.trim with armed := t.trim.armed }
          ∧ (∀ u : TowerIdx, look t.trim.armed u = if a = 0xFF ∨ a.toNat = u.val then b == 1 else look s.trim.armed u)
          ∧ ∃ n, n < 4096 ∧ (∀ u : TowerIdx, n.testBit u.val = look t.trim.armed u) ∧ Answered s f rest 0 (byte2 n) t))
  ∧ ∀ (s : State) (f : Frame) (rest : List Frame) (small medium large : Band), Waits s .loadTrimBands f rest →
    (∀ w ∈ [small, medium, large], w.peak < 65536 ∧ w.left < 65536 ∧ w.right < 65536 ∧ w.step < 256) →
    f.payload = [small, medium, large].flatMap (fun w => byte2 w.peak ++ byte2 w.left ++ byte2 w.right ++ byte1 w.step) →
    let inRange := ∀ w ∈ [small, medium, large], w.peak ≤ 3000 ∧ w.left ≤ 3000 ∧ w.right ≤ 3000
    ∃ t, exec .loadTrimBands s = .next t
      ∧ (¬ inRange → Answered s f rest 3 [] t ∧ OnlyChanges [.link] s t)
      ∧ (inRange →
          Answered s f rest 0 f.payload t ∧ OnlyChanges [.trim, .link] s t
          ∧ t.trim = { s.trim with small := small, medium := medium, large := large })

/-- R114: Clear Trim refuses a tower out of range. Accepted, every trim of the named towers is 0, their averaging reset and Trim
Saturated clear; Trim Armed, last averages and other trims stay; the Key Target of each zone whose trim was not 0 is updated
where the pass has passed it and handed on, with the Dispatch Scan of a zone that becomes PENDING (R67, R52, R80), and the
answer counts the zones whose trim was not 0. -/
def Obligations.ClearTrimClearsTheNamedTowers : Prop :=
  ∀ (s : State) (f : Frame) (rest : List Frame) (a : Byte), Waits s .clearTrim f rest → f.payload = [a] →
    let named := fun u : TowerIdx => a = 0xFF ∨ a.toNat = u.val
    let updated := fun (u : TowerIdx) (z : ZoneIdx) => named u ∧ (s.trimOf u z).trim ≠ 0
      ∧ ((s.pass u).state = .none ∨ z.val < (s.pass u).cursor)
    ∃ t, exec .clearTrim s = .next t
      ∧ ((12 ≤ a.toNat ∧ a ≠ 0xFF) → Answered s f rest 3 [] t ∧ OnlyChanges [.link] s t)
      ∧ ((a.toNat < 12 ∨ a = 0xFF) →
          OnlyChanges [.engine, .motion, .trim, .notice, .link] s t
          ∧ Answered s f rest 0 (byte2 (allPairs.filter fun p =>
              (a == 0xFF || a.toNat == p.1.val) && (s.trimOf p.1 p.2).trim != 0).length) t
          ∧ (∀ u z, named u → t.trimOf u z = ⟨0, 0, 0, (s.trimOf u z).lastAverage⟩)
          ∧ (∀ u z, ¬ named u → (t.trimOf u z).trim = (s.trimOf u z).trim
              ∧ (t.trimOf u z).lastAverage = (s.trimOf u z).lastAverage)
          ∧ (∀ u, look t.trim.saturated u = true ↔ look s.trim.saturated u = true ∧ ¬ named u)
          ∧ t.trim = { s.trim with zones := t.trim.zones, saturated := t.trim.saturated }
          ∧ (∀ u z g, updated u z → s.targetOf u z = some g →
              HandedOn s t u z { g with
                k := (max 0 (min ((s.tower u).keyMax : Int) (g.b + (s.tower u).offsets.getD z.val 0))).toNat })
          ∧ (∀ u z, (¬ updated u z ∨ s.targetOf u z = none) →
              t.targetOf u z = s.targetOf u z ∧ StartedOrSame s t u z)
          ∧ t.engine.passes = s.engine.passes
          ∧ ∀ k, k ≠ 7 → look t.notice.records k = look s.notice.records k)

/-! ### Sheet marks, press phase and changeover (chapter 7) -/

/-- R121, R123: a Sheet Mark counts one sheet, held at the maximum, and takes an armed changeover. A Press Phase outside the four is
refused; the phase in force is accepted without effect; a new phase is set, an armed changeover is taken on entering IDLE, and a
Dispatch Scan is made. The answer carries the phase, both slot states and whether a changeover was taken. -/
def Obligations.SheetMarksAndPhasesTakeArmedChangeovers : Prop :=
  (∀ s : State, s.link.resetHeld = false →
    let counted := s.setCycle { s.cycle with sheetCount := min 4294967295 (s.cycle.sheetCount + 1) }
    (s.cycle.armed = none → exec .sheetMark s = .next counted)
    ∧ ∀ a, s.cycle.armed = some a → exec .sheetMark s = .next (takeChangeover a counted))
  ∧ ∀ (s : State) (f : Frame) (rest : List Frame) (n : Byte), Waits s .pressPhase f rest → f.payload = [n] →
    let states := fun t : State => byte1 (look t.jobs 0).num ++ byte1 (look t.jobs 1).num
    ∃ t, exec .pressPhase s = .next t
      ∧ (4 ≤ n.toNat → Answered s f rest 3 [] t ∧ OnlyChanges [.link] s t)
      ∧ ∀ ph : Phase, n.toNat = ph.num →
        (ph = s.cycle.phase → Answered s f rest 0 ([n] ++ states s ++ [0]) t ∧ OnlyChanges [.link] s t)
        ∧ (ph ≠ s.cycle.phase → (ph ≠ .idle ∨ s.cycle.armed = none) →
            Answered s f rest 0 ([n] ++ states s ++ [0]) t ∧ OnlyChanges [.motion, .trim, .cycle, .link] s t
            ∧ t.cycle = { s.cycle with phase := ph } ∧ (∀ u z, StartedOrSame s t u z) ∧ ScanExhausted t)
        ∧ ∀ a, ph = .idle → s.cycle.phase ≠ .idle → s.cycle.armed = some a →
            Answered s f rest 0 ([n] ++ states t ++ [1]) t
            ∧ OnlyChanges [.link]
                (takeChangeover a ((s.setLink { s.link with uReceive := rest }).setCycle { s.cycle with phase := .idle })) t

/-- R125, R126: Changeover refuses in order a field out of range, the RUNNING slot, a slot that is not READY and a changeover already
armed; accepted, the slot is ARMED with the carry flag recorded, and in IDLE the changeover is taken before the answer. Cancel
Changeover refuses where none is armed and else makes the armed slot READY again and discards the record. -/
def Obligations.ChangeoverArmsAndCancelDisarms : Prop :=
  let states := fun t : State => byte1 (look t.jobs 0).num ++ byte1 (look t.jobs 1).num
  (∀ (s : State) (f : Frame) (rest : List Frame) (a b : Byte), Waits s .changeover f rest → f.payload = [a, b] →
    let armed := match s.cycle.armed with
      | some x => byte1 x.slot.val
      | none => [0xFF]
    ∃ t, exec .changeover s = .next t
      ∧ (let refused := fun code : Nat => Answered s f rest code (states s ++ armed ++ [0]) t ∧ OnlyChanges [.link] s t
        ((2 ≤ a.toNat ∨ 2 ≤ b.toNat) → refused 3)
        ∧ ∀ j : SlotIdx, a.toNat = j.val → b.toNat ≤ 1 →
          ((look s.jobs j).inRole .running = true → refused 2)
          ∧ ((look s.jobs j).inRole .running = false → (look s.jobs j).inRole .ready = false → refused 6)
          ∧ ((look s.jobs j).inRole .ready = true → s.cycle.armed ≠ none → refused 1)
          ∧ ∀ job, look s.jobs j = .held .ready job → s.cycle.armed = none →
            let record : ArmedChangeover := ⟨j, b == 1⟩
            let armedState := ((s.setLink { s.link with uReceive := rest }).putJob j (.held .armed job)).setCycle
              { s.cycle with armed := some record }
            (s.cycle.phase ≠ .idle →
              Answered s f rest 0 (states t ++ [a, 0]) t ∧ OnlyChanges [.link] armedState t)
            ∧ (s.cycle.phase = .idle →
              Answered s f rest 0 (states t ++ [0xFF, 1]) t ∧ OnlyChanges [.link] (takeChangeover record armedState) t)))
  ∧ ∀ (s : State) (f : Frame) (rest : List Frame), Waits s .cancelChangeover f rest → f.payload = [] →
    ∃ t, exec .cancelChangeover s = .next t
      ∧ (s.cycle.armed = none → Answered s f rest 2 (states s) t ∧ OnlyChanges [.link] s t)
      ∧ ∀ a, s.cycle.armed = some a →
          Answered s f rest 0 (states t) t ∧ OnlyChanges [.jobs, .cycle, .link] s t
          ∧ t.cycle = { s.cycle with armed := none }
          ∧ t.jobs = put s.jobs a.slot (.held .ready (look s.jobs a.slot).job)

/-- R128, R66, R97, R117: what the taking of an armed changeover leaves, block by block: the armed job RUNNING and the old one gone
with its buffers; the Hold Tower Set its enabled towers; Key Targets kept where the zone keeps a place, one above the new key
maximum clamped to it and handed on under the new job's settings, and else absent, the zone's motion state following; passes
abandoned and begun anew; trims carried and clamped or 0; every averaging reset, every tower armed; Settle Watches clear,
Restricted Motion re-evaluated, and a Dispatch Scan made. The watches are cleared at step 4, so a set Settle Watch whose tower
comes to rest at step 3, as its zones are told they have no Key Target or a clamped one, raises SETTLED (R96). That a tower's
zones without a place come before its clamped ones, and the towers ascending, is the model's choice (log entry 20). -/
def Obligations.TakingAChangeoverExchangesTheJobs : Prop :=
  ∀ (s : State) (j : SlotIdx) (carry : Bool) (job : Job), look s.jobs j = .held .armed job →
    let t := takeChangeover ⟨j, carry⟩ s
    let rec' := fun u => look job.towers u
    let place := fun (u : TowerIdx) (z : ZoneIdx) => (rec' u).enabled = true ∧ ∃ m, (rec' u).zoneMap = some m ∧ z.val < m.zones
    let clamped := fun (u : TowerIdx) (x : Int) => max (-((rec' u).trimLimit : Int)) (min (rec' u).trimLimit x)
    let abandoned := fun u => { s.pass u with state := .none, rerun := false }
    let mean := fun u => match (rec' u).coverage, (rec' u).zoneMap with
      | some c, some m => some ((2 * c.sum + m.zones) / (2 * m.zones))
      | _, _ => none
    let unmoved := fun m : MotionState => m = .noTarget ∨ m = .atTarget ∨ m = .faulted
    let settles := fun u : TowerIdx => look s.motion.watch u = true
      ∧ (∃ z, ¬ place u z ∧ ((s.zone u z).state = .atTarget ∨ (s.zone u z).state = .pending))
      ∧ ∀ z, unmoved (s.zone u z).state ∨ (¬ place u z ∧ (s.zone u z).state = .pending)
    OnlyChanges [.jobs, .buffers, .engine, .motion, .trim, .cycle, .notice] s t
    ∧ t.cycle = { s.cycle with armed := none, hold := tab fun u => (rec' u).enabled }
    ∧ look t.jobs j = .held .running job
    ∧ (∀ i, i ≠ j → look t.jobs i = if s.isRunning i then .empty else look s.jobs i)
    ∧ (∀ i, look t.buffers i = (look s.buffers i).filter fun b => !s.isRunning b.slot)
    ∧ (∀ u z, place u z → (s.targetOf u z = none ∨ ∃ g, s.targetOf u z = some g ∧ g.k ≤ (rec' u).keyMax) →
        t.targetOf u z = s.targetOf u z ∧ StartedOrSame s t u z)
    ∧ (∀ u z g, place u z → s.targetOf u z = some g → (rec' u).keyMax < g.k →
        HandedOn (s.setJobs t.jobs) t u z { g with k := (rec' u).keyMax })
    ∧ (∀ u z, ¬ place u z → t.targetOf u z = none
        ∧ t.zone u z = { s.zone u z with state := match (s.zone u z).state with
            | .moving => .moving
            | .retry => .retry
            | .faulted => .faulted
            | .noTarget => .noTarget
            | .atTarget => .noTarget
            | .pending => .noTarget })
    ∧ (∀ u z, (t.zone u z).actual = (s.zone u z).actual ∧ (t.zone u z).settleUntil = (s.zone u z).settleUntil)
    ∧ (∀ u, (rec' u).enabled = true → t.pass u = (abandoned u).caused (look job.ready u) (mean u))
    ∧ (∀ u, (rec' u).enabled = false → t.pass u = { abandoned u with sweep := none })
    ∧ (∀ u z, place u z → carry = true →
        t.trimOf u z = ⟨clamped u (s.trimOf u z).trim, 0, 0, (s.trimOf u z).lastAverage⟩)
    ∧ (∀ u z, (¬ place u z ∨ carry = false) → t.trimOf u z = ⟨0, 0, 0, (s.trimOf u z).lastAverage⟩)
    ∧ (∀ u, look t.trim.saturated u = true ↔
        carry = true ∧ ∃ z, place u z ∧ clamped u (s.trimOf u z).trim ≠ (s.trimOf u z).trim)
    ∧ (∀ u, look t.trim.armed u = true)
    ∧ t.trim = { s.trim with zones := t.trim.zones, saturated := t.trim.saturated, armed := t.trim.armed }
    ∧ (∀ u, look t.motion.watch u = false) ∧ SameLimits s t
    ∧ t.motion.queue.filter DriveEntry.isSweep = s.motion.queue.filter DriveEntry.isSweep
    ∧ Reevaluated s t (fun u => (rec' u).enabled)
    ∧ (∃ us : List TowerIdx, us.Pairwise (· < ·)
        ∧ (∀ u, settles u → u ∈ us) ∧ (∀ u ∈ us, look s.motion.watch u = true)
        ∧ (∀ u ∈ us, (∀ z g, place u z → s.targetOf u z = some g → g.k ≤ (rec' u).keyMax) → settles u)
        ∧ look t.notice.records 7 = us.foldl
            (fun r u => some (mergeNotice r (some u) (.tower u) s.cycle.sheetCount)) (look s.notice.records 7))
    ∧ (∀ k, k ≠ 2 → k ≠ 7 → look t.notice.records k = look s.notice.records k)
    ∧ ScanExhausted t

/-! ### Notices (chapter 8) -/

/-- R135: an occurrence of a kind without a record creates one: its tower or no tower, count 1, its detail and the Sheet Count. One
of a kind with a record adds its tower and counts, held at 255; first detail and first Sheet Count stay. No other kind's record
and no control changes. -/
def Obligations.OccurrencesMergeIntoOneRecord : Prop :=
  ∀ (k : NoticeKind) (tower : Option TowerIdx) (d : Detail) (s : State),
    let t := raise k tower d s
    OnlyChanges [.notice] s t
    ∧ (∀ i, i ≠ k.num → look t.notice.records i = look s.notice.records i)
    ∧ t.notice = { s.notice with records := t.notice.records }
    ∧ (look s.notice.records k.num = none →
        look t.notice.records k.num = some ⟨tab fun u => some u == tower, 1, d, s.cycle.sheetCount⟩)
    ∧ ∀ r, look s.notice.records k.num = some r →
        look t.notice.records k.num
          = some ⟨tab fun u => look r.towers u || some u == tower, min 255 (r.count + 1), r.detail, r.firstSheet⟩

/-- R139, R140: Set Notice Control refuses a priority outside 1 to 5 or a flag out of range and else replaces all three controls and
no record; Clear Pending refuses a kind out of range and else removes the named record, or every record, and counts those
removed. The answers carry the kinds that still have a record. -/
def Obligations.NoticeControlsAndRecordsAreWritten : Prop :=
  let kinds := fun (t : State) (n : Nat) => n < 256 ∧ ∀ k : Fin 8, n.testBit k.val = (look t.notice.records k).isSome
  (∀ (s : State) (f : Frame) (rest : List Frame) (priority : Fin 8 → Nat) (enable off : Byte),
    Waits s .setNoticeControl f rest → (∀ k, priority k < 256) →
    f.payload = (List.finRange 8).flatMap (fun k => byte1 (priority k)) ++ [enable, off] →
    let inRange := (∀ k, 1 ≤ priority k ∧ priority k ≤ 5) ∧ off.toNat ≤ 1
    ∃ t, exec .setNoticeControl s = .next t
      ∧ (¬ inRange → Answered s f rest 3 [] t ∧ OnlyChanges [.link] s t)
      ∧ (inRange →
          OnlyChanges [.notice, .link] s t
          ∧ t.notice = { s.notice with priorities := tab priority, enabled := tab fun k => enable.getLsbD k.val, off := off == 1 }
          ∧ ∃ n, kinds t n ∧ Answered s f rest 0 (f.payload ++ byte1 n) t))
  ∧ ∀ (s : State) (f : Frame) (rest : List Frame) (a : Byte), Waits s .clearPending f rest → f.payload = [a] →
    ∃ t, exec .clearPending s = .next t
      ∧ ((8 ≤ a.toNat ∧ a ≠ 0xFF) → Answered s f rest 3 [] t ∧ OnlyChanges [.link] s t)
      ∧ ((a.toNat < 8 ∨ a = 0xFF) →
          OnlyChanges [.notice, .link] s t ∧ t.notice = { s.notice with records := t.notice.records }
          ∧ (∀ k : Fin 8, look t.notice.records k = if a = 0xFF ∨ a.toNat = k.val then none else look s.notice.records k)
          ∧ ∃ n, kinds t n ∧ Answered s f rest 0
              (byte1 ((List.finRange 8).filter fun k =>
                (a == 0xFF || a.toNat == k.val) && (look s.notice.records k).isSome).length ++ byte1 n) t)

/-! ### Resets -/

/-- R158, R13, R33, R51, R72, R99, R119, R133, R142: an accepted Bridge Reset empties both Job Slots, every buffer, record and queue
but the Response Queue, and returns Zone Engine, Motion Scheduler, Trim Unit and Cycle Unit to their power-on values, but keeps
the Curve Library, the motion limits and tags, the Trim Bands, Sheet Count and phase, the notice controls, the frames in
transmission and the own address; its answer stands behind those already queued. -/
def Obligations.BridgeResetKeepsWhatItNames : Prop :=
  ∀ (s : State) (f : Frame) (rest : List Frame), Waits s .bridgeReset f rest → f.payload = [] →
    ∃ t, exec .bridgeReset s = .next t
      ∧ OnlyChanges [.jobs, .buffers, .engine, .motion, .trim, .cycle, .notice, .link] s t
      ∧ (∀ j, look t.jobs j = .empty) ∧ (∀ i, look t.buffers i = none)
      ∧ (∀ u z, t.targetOf u z = none) ∧ (∀ u, t.pass u = ⟨.none, 0, false, none, none⟩)
      ∧ (∀ u z, t.zone u z = ⟨.noTarget, none, none, (s.zone u z).tag, none, 0⟩)
      ∧ t.motion = { s.motion with
          zones := t.motion.zones, queue := [], inFlight := Vector.replicate 12 0, pressInFlight := 0
          restricted := false, pointer := 0, watch := Vector.replicate 12 false }
      ∧ (∀ u z, t.trimOf u z = ⟨0, 0, 0, none⟩)
      ∧ t.trim = { s.trim with
          zones := t.trim.zones, armed := Vector.replicate 12 false, saturated := Vector.replicate 12 false }
      ∧ t.cycle = { s.cycle with armed := none, hold := Vector.replicate 12 false }
      ∧ t.notice = { s.notice with records := Vector.replicate 8 none }
      ∧ t.link = { s.link with
          uReceive := [], upForward := [], downForward := [], mReceive := [], responses := responsesAfter s f 0 [] }

/-- R12, R32, R50, R71, R98, R118, R132, R141, R159, R145: what power-on reset leaves, field by field. While RESET is held active
frames and Sheet Marks are ignored; its release reads the strap pins into the own address and changes nothing else. The own
address before the release, the time base and the two fields of the model are the model's choices (log entries 2, 3 and 4). -/
def Obligations.PowerOnResetAndRelease : Prop :=
  (∀ s : State, ∃ t, exec .powerOnReset s = .next t
    ∧ (∀ c, look t.library c = none) ∧ (∀ j, look t.jobs j = .empty) ∧ (∀ i, look t.buffers i = none)
    ∧ (∀ u z, t.targetOf u z = none) ∧ (∀ u, t.pass u = ⟨.none, 0, false, none, none⟩)
    ∧ (∀ u z, t.zone u z = ⟨.noTarget, none, none, 0, none, 0⟩)
    ∧ t.motion = ⟨t.motion.zones, [], Vector.replicate 12 0, 0, Vector.replicate 12 2, 8, 150, false, 0,
        Vector.replicate 12 false⟩
    ∧ (∀ u z, t.trimOf u z = ⟨0, 0, 0, none⟩)
    ∧ t.trim = ⟨t.trim.zones, Vector.replicate 12 false, Vector.replicate 12 false, ⟨0, 0, 100, 4⟩, ⟨100, 80, 120, 12⟩,
        ⟨250, 120, 0, 30⟩⟩
    ∧ t.cycle = ⟨0, .idle, none, Vector.replicate 12 false⟩
    ∧ t.notice = ⟨Vector.replicate 8 none, #v[1, 2, 2, 2, 3, 3, 4, 5], Vector.replicate 8 true, false⟩
    ∧ t.link = ⟨[], [], [], [], [], none, none, t.link.ownAddress, true⟩
    ∧ t.freeCount = s.freeCount ∧ t.pending = s.pending ∧ t = (State.reset.setFreeCount s.freeCount).setPending s.pending)
  ∧ (∀ s : State, s.link.resetHeld = true →
    (∀ bytes, exec (.portUFrameReceived bytes) s = .next s ∧ exec (.portDFrameReceived bytes) s = .next s
      ∧ exec (.portMFrameReceived bytes) s = .next s)
    ∧ exec .sheetMark s = .next s
    ∧ ∀ straps : BitVec 3, exec (.resetRelease straps) s = .next
        (s.setLink { s.link with ownAddress := BitVec.ofNat 8 (0x30 + straps.toNat), resetHeld := false }))
  ∧ ∀ s : State, s.link.resetHeld = false → ∀ straps, exec (.resetRelease straps) s = .next s

/-! ### Invariants -/

/-- Every invariant below holds of the machine as power-on reset leaves it. -/
def Obligations.ResetMeetsEveryInvariant : Prop :=
  CurvesValid State.reset ∧ QueuesWithinCapacity State.reset ∧ JobRolesConsistent State.reset
    ∧ TargetsWithinMaximum State.reset ∧ TrimsWithinLimit State.reset ∧ MotionConsistent State.reset ∧ CountsExact State.reset
    ∧ DriveQueueConsistent State.reset ∧ StripsConsistent State.reset

/-- R2, R149: from any state in which they hold, every step keeps each LOADED curve valid and each frame queue within its
capacity. -/
def Obligations.EveryStepKeepsCurvesAndQueues : Prop :=
  (∀ s t, CurvesValid s → step s = .next t → CurvesValid t)
    ∧ ∀ s t, QueuesWithinCapacity s → step s = .next t → QueuesWithinCapacity t

/-- R15, R120, R59, R100: from any state in which they hold, every step keeps at most one slot RUNNING, the armed slot present
exactly while a slot is ARMED and naming it, every Key Target within its tower's key maximum in the running job, and every trim
within its tower's trim limit there. -/
def Obligations.EveryStepKeepsJobRolesAndBounds : Prop :=
  (∀ s t, JobRolesConsistent s → step s = .next t → JobRolesConsistent t)
    ∧ (∀ s t, JobRolesConsistent s → TargetsWithinMaximum s → step s = .next t → TargetsWithinMaximum t)
    ∧ ∀ s t, JobRolesConsistent s → TrimsWithinLimit s → step s = .next t → TrimsWithinLimit t

/-- R73, R78, R76: from any state in which they hold, every step keeps the motion fields of every zone in agreement with its motion
state, the in-flight counts equal to the numbers of zones in MOVING or RETRY, and the Drive Command Queue in agreement with the
zones: one MOVE at most for a zone, with its tag and its commanded target, and one SWEEP at most for a tower. -/
def Obligations.EveryStepKeepsMotionCountsAndDriveQueue : Prop :=
  (∀ s t, MotionConsistent s → step s = .next t → MotionConsistent t)
    ∧ (∀ s t, CountsExact s → step s = .next t → CountsExact t)
    ∧ ∀ s t, DriveQueueConsistent s → step s = .next t → DriveQueueConsistent t

/-- R34, R35, R45, R46: from any state in which it holds, every step keeps the Strip Assembly Buffers in agreement with the Job
Slots, each accumulator within what its received columns can have given it, and every coverage value at most 1000. -/
def Obligations.EveryStepKeepsStripsConsistent : Prop :=
  ∀ s t, StripsConsistent s → step s = .next t → StripsConsistent t
end

