-- ==== Sys2Proof/Laws/Tables.lean ====
section
/-! SUPPORT. Reading a table after a write, tables from functions, and the index lists. -/

namespace Sys2Proof

variable {n : Nat} {α : Type}

@[simp] theorem look_put (v : Vector α n) (i j : Fin n) (x : α) :
    look (put v i x) j = if i = j then x else look v j := by
  simp [look, put, Vector.getElem_set, Fin.ext_iff]

@[simp] theorem look_tab (f : Fin n → α) (j : Fin n) : look (tab f) j = f j := by
  simp [look, tab]

@[simp] theorem look_replicate (x : α) (j : Fin n) : look (Vector.replicate n x) j = x := by
  simp [look]

/-- Two tables with equal entries are equal. -/
theorem table_ext {v w : Vector α n} (h : ∀ j, look v j = look w j) : v = w := by
  ext i hi
  exact h ⟨i, hi⟩

@[simp] theorem tab_look (v : Vector α n) : (tab fun i => look v i) = v := table_ext fun j => by simp

@[simp] theorem put_look (v : Vector α n) (i : Fin n) : put v i (look v i) = v :=
  table_ext fun j => by
    by_cases h : i = j
    · simp [h]
    · simp [h]

@[simp] theorem put_put (v : Vector α n) (i : Fin n) (x y : α) : put (put v i x) i y = put v i y :=
  table_ext fun j => by
    by_cases h : i = j <;> simp [h]

@[simp] theorem zlook_zput (v : ZoneTable α) (t u : TowerIdx) (z y : ZoneIdx) (x : α) :
    zlook (zput v t z x) u y = if t = u ∧ z = y then x else zlook v u y := by
  by_cases h : t = u
  · subst h; by_cases hz : z = y <;> simp [zlook, zput, hz]
  · simp [zlook, zput, h]

@[simp] theorem zlook_ztab (f : TowerIdx → ZoneIdx → α) (t : TowerIdx) (z : ZoneIdx) :
    zlook (ztab f) t z = f t z := by
  simp [zlook, ztab]

@[simp] theorem zlook_replicate (x : α) (t : TowerIdx) (z : ZoneIdx) :
    zlook (Vector.replicate 12 (Vector.replicate 48 x)) t z = x := by
  simp [zlook]

/-- Two zone tables with equal entries are equal. -/
theorem zoneTable_ext {v w : ZoneTable α} (h : ∀ t z, zlook v t z = zlook w t z) : v = w :=
  table_ext fun t => table_ext fun z => h t z

@[simp] theorem mem_allTowers (t : TowerIdx) : t ∈ allTowers := List.mem_finRange t

@[simp] theorem mem_allZones (z : ZoneIdx) : z ∈ allZones := List.mem_finRange z

@[simp] theorem mem_allPairs (p : TowerIdx × ZoneIdx) : p ∈ allPairs := by
  simp [allPairs]

theorem allZones_nodup : allZones.Nodup := List.nodup_finRange 48

theorem allTowers_nodup : allTowers.Nodup := List.nodup_finRange 12

end Sys2Proof
end

