-- ==== Sys2Proof/Laws/State.lean ====
section
/-! SUPPORT. One lemma per block per block update, and per accessor per entry update. -/

namespace Sys2Proof.Machine

section
variable (s : State) (x : Library)
@[simp] theorem setLibrary_library : (s.setLibrary x).library = x := rfl
@[simp] theorem setLibrary_jobs : (s.setLibrary x).jobs = s.jobs := rfl
@[simp] theorem setLibrary_buffers : (s.setLibrary x).buffers = s.buffers := rfl
@[simp] theorem setLibrary_engine : (s.setLibrary x).engine = s.engine := rfl
@[simp] theorem setLibrary_motion : (s.setLibrary x).motion = s.motion := rfl
@[simp] theorem setLibrary_trim : (s.setLibrary x).trim = s.trim := rfl
@[simp] theorem setLibrary_cycle : (s.setLibrary x).cycle = s.cycle := rfl
@[simp] theorem setLibrary_notice : (s.setLibrary x).notice = s.notice := rfl
@[simp] theorem setLibrary_link : (s.setLibrary x).link = s.link := rfl
@[simp] theorem setLibrary_clock : (s.setLibrary x).clock = s.clock := rfl
@[simp] theorem setLibrary_freeCount : (s.setLibrary x).freeCount = s.freeCount := rfl
@[simp] theorem setLibrary_pending : (s.setLibrary x).pending = s.pending := rfl
@[simp] theorem setLibrary_setLibrary (y : Library) : (s.setLibrary x).setLibrary y = s.setLibrary y := rfl
@[simp] theorem setLibrary_self : s.setLibrary s.library = s := rfl
end

section
variable (s : State) (x : Vector JobSlot 2)
@[simp] theorem setJobs_library : (s.setJobs x).library = s.library := rfl
@[simp] theorem setJobs_jobs : (s.setJobs x).jobs = x := rfl
@[simp] theorem setJobs_buffers : (s.setJobs x).buffers = s.buffers := rfl
@[simp] theorem setJobs_engine : (s.setJobs x).engine = s.engine := rfl
@[simp] theorem setJobs_motion : (s.setJobs x).motion = s.motion := rfl
@[simp] theorem setJobs_trim : (s.setJobs x).trim = s.trim := rfl
@[simp] theorem setJobs_cycle : (s.setJobs x).cycle = s.cycle := rfl
@[simp] theorem setJobs_notice : (s.setJobs x).notice = s.notice := rfl
@[simp] theorem setJobs_link : (s.setJobs x).link = s.link := rfl
@[simp] theorem setJobs_clock : (s.setJobs x).clock = s.clock := rfl
@[simp] theorem setJobs_freeCount : (s.setJobs x).freeCount = s.freeCount := rfl
@[simp] theorem setJobs_pending : (s.setJobs x).pending = s.pending := rfl
@[simp] theorem setJobs_setJobs (y : Vector JobSlot 2) : (s.setJobs x).setJobs y = s.setJobs y := rfl
@[simp] theorem setJobs_self : s.setJobs s.jobs = s := rfl
end

section
variable (s : State) (x : Vector (Option Buffer) 4)
@[simp] theorem setBuffers_library : (s.setBuffers x).library = s.library := rfl
@[simp] theorem setBuffers_jobs : (s.setBuffers x).jobs = s.jobs := rfl
@[simp] theorem setBuffers_buffers : (s.setBuffers x).buffers = x := rfl
@[simp] theorem setBuffers_engine : (s.setBuffers x).engine = s.engine := rfl
@[simp] theorem setBuffers_motion : (s.setBuffers x).motion = s.motion := rfl
@[simp] theorem setBuffers_trim : (s.setBuffers x).trim = s.trim := rfl
@[simp] theorem setBuffers_cycle : (s.setBuffers x).cycle = s.cycle := rfl
@[simp] theorem setBuffers_notice : (s.setBuffers x).notice = s.notice := rfl
@[simp] theorem setBuffers_link : (s.setBuffers x).link = s.link := rfl
@[simp] theorem setBuffers_clock : (s.setBuffers x).clock = s.clock := rfl
@[simp] theorem setBuffers_freeCount : (s.setBuffers x).freeCount = s.freeCount := rfl
@[simp] theorem setBuffers_pending : (s.setBuffers x).pending = s.pending := rfl
@[simp] theorem setBuffers_setBuffers (y : Vector (Option Buffer) 4) : (s.setBuffers x).setBuffers y = s.setBuffers y := rfl
@[simp] theorem setBuffers_self : s.setBuffers s.buffers = s := rfl
end

section
variable (s : State) (x : Engine)
@[simp] theorem setEngine_library : (s.setEngine x).library = s.library := rfl
@[simp] theorem setEngine_jobs : (s.setEngine x).jobs = s.jobs := rfl
@[simp] theorem setEngine_buffers : (s.setEngine x).buffers = s.buffers := rfl
@[simp] theorem setEngine_engine : (s.setEngine x).engine = x := rfl
@[simp] theorem setEngine_motion : (s.setEngine x).motion = s.motion := rfl
@[simp] theorem setEngine_trim : (s.setEngine x).trim = s.trim := rfl
@[simp] theorem setEngine_cycle : (s.setEngine x).cycle = s.cycle := rfl
@[simp] theorem setEngine_notice : (s.setEngine x).notice = s.notice := rfl
@[simp] theorem setEngine_link : (s.setEngine x).link = s.link := rfl
@[simp] theorem setEngine_clock : (s.setEngine x).clock = s.clock := rfl
@[simp] theorem setEngine_freeCount : (s.setEngine x).freeCount = s.freeCount := rfl
@[simp] theorem setEngine_pending : (s.setEngine x).pending = s.pending := rfl
@[simp] theorem setEngine_setEngine (y : Engine) : (s.setEngine x).setEngine y = s.setEngine y := rfl
@[simp] theorem setEngine_self : s.setEngine s.engine = s := rfl
end

section
variable (s : State) (x : Motion)
@[simp] theorem setMotion_library : (s.setMotion x).library = s.library := rfl
@[simp] theorem setMotion_jobs : (s.setMotion x).jobs = s.jobs := rfl
@[simp] theorem setMotion_buffers : (s.setMotion x).buffers = s.buffers := rfl
@[simp] theorem setMotion_engine : (s.setMotion x).engine = s.engine := rfl
@[simp] theorem setMotion_motion : (s.setMotion x).motion = x := rfl
@[simp] theorem setMotion_trim : (s.setMotion x).trim = s.trim := rfl
@[simp] theorem setMotion_cycle : (s.setMotion x).cycle = s.cycle := rfl
@[simp] theorem setMotion_notice : (s.setMotion x).notice = s.notice := rfl
@[simp] theorem setMotion_link : (s.setMotion x).link = s.link := rfl
@[simp] theorem setMotion_clock : (s.setMotion x).clock = s.clock := rfl
@[simp] theorem setMotion_freeCount : (s.setMotion x).freeCount = s.freeCount := rfl
@[simp] theorem setMotion_pending : (s.setMotion x).pending = s.pending := rfl
@[simp] theorem setMotion_setMotion (y : Motion) : (s.setMotion x).setMotion y = s.setMotion y := rfl
@[simp] theorem setMotion_self : s.setMotion s.motion = s := rfl
end

section
variable (s : State) (x : Trim)
@[simp] theorem setTrim_library : (s.setTrim x).library = s.library := rfl
@[simp] theorem setTrim_jobs : (s.setTrim x).jobs = s.jobs := rfl
@[simp] theorem setTrim_buffers : (s.setTrim x).buffers = s.buffers := rfl
@[simp] theorem setTrim_engine : (s.setTrim x).engine = s.engine := rfl
@[simp] theorem setTrim_motion : (s.setTrim x).motion = s.motion := rfl
@[simp] theorem setTrim_trim : (s.setTrim x).trim = x := rfl
@[simp] theorem setTrim_cycle : (s.setTrim x).cycle = s.cycle := rfl
@[simp] theorem setTrim_notice : (s.setTrim x).notice = s.notice := rfl
@[simp] theorem setTrim_link : (s.setTrim x).link = s.link := rfl
@[simp] theorem setTrim_clock : (s.setTrim x).clock = s.clock := rfl
@[simp] theorem setTrim_freeCount : (s.setTrim x).freeCount = s.freeCount := rfl
@[simp] theorem setTrim_pending : (s.setTrim x).pending = s.pending := rfl
@[simp] theorem setTrim_setTrim (y : Trim) : (s.setTrim x).setTrim y = s.setTrim y := rfl
@[simp] theorem setTrim_self : s.setTrim s.trim = s := rfl
end

section
variable (s : State) (x : Cycle)
@[simp] theorem setCycle_library : (s.setCycle x).library = s.library := rfl
@[simp] theorem setCycle_jobs : (s.setCycle x).jobs = s.jobs := rfl
@[simp] theorem setCycle_buffers : (s.setCycle x).buffers = s.buffers := rfl
@[simp] theorem setCycle_engine : (s.setCycle x).engine = s.engine := rfl
@[simp] theorem setCycle_motion : (s.setCycle x).motion = s.motion := rfl
@[simp] theorem setCycle_trim : (s.setCycle x).trim = s.trim := rfl
@[simp] theorem setCycle_cycle : (s.setCycle x).cycle = x := rfl
@[simp] theorem setCycle_notice : (s.setCycle x).notice = s.notice := rfl
@[simp] theorem setCycle_link : (s.setCycle x).link = s.link := rfl
@[simp] theorem setCycle_clock : (s.setCycle x).clock = s.clock := rfl
@[simp] theorem setCycle_freeCount : (s.setCycle x).freeCount = s.freeCount := rfl
@[simp] theorem setCycle_pending : (s.setCycle x).pending = s.pending := rfl
@[simp] theorem setCycle_setCycle (y : Cycle) : (s.setCycle x).setCycle y = s.setCycle y := rfl
@[simp] theorem setCycle_self : s.setCycle s.cycle = s := rfl
end

section
variable (s : State) (x : NoticeUnit)
@[simp] theorem setNotice_library : (s.setNotice x).library = s.library := rfl
@[simp] theorem setNotice_jobs : (s.setNotice x).jobs = s.jobs := rfl
@[simp] theorem setNotice_buffers : (s.setNotice x).buffers = s.buffers := rfl
@[simp] theorem setNotice_engine : (s.setNotice x).engine = s.engine := rfl
@[simp] theorem setNotice_motion : (s.setNotice x).motion = s.motion := rfl
@[simp] theorem setNotice_trim : (s.setNotice x).trim = s.trim := rfl
@[simp] theorem setNotice_cycle : (s.setNotice x).cycle = s.cycle := rfl
@[simp] theorem setNotice_notice : (s.setNotice x).notice = x := rfl
@[simp] theorem setNotice_link : (s.setNotice x).link = s.link := rfl
@[simp] theorem setNotice_clock : (s.setNotice x).clock = s.clock := rfl
@[simp] theorem setNotice_freeCount : (s.setNotice x).freeCount = s.freeCount := rfl
@[simp] theorem setNotice_pending : (s.setNotice x).pending = s.pending := rfl
@[simp] theorem setNotice_setNotice (y : NoticeUnit) : (s.setNotice x).setNotice y = s.setNotice y := rfl
@[simp] theorem setNotice_self : s.setNotice s.notice = s := rfl
end

section
variable (s : State) (x : Link)
@[simp] theorem setLink_library : (s.setLink x).library = s.library := rfl
@[simp] theorem setLink_jobs : (s.setLink x).jobs = s.jobs := rfl
@[simp] theorem setLink_buffers : (s.setLink x).buffers = s.buffers := rfl
@[simp] theorem setLink_engine : (s.setLink x).engine = s.engine := rfl
@[simp] theorem setLink_motion : (s.setLink x).motion = s.motion := rfl
@[simp] theorem setLink_trim : (s.setLink x).trim = s.trim := rfl
@[simp] theorem setLink_cycle : (s.setLink x).cycle = s.cycle := rfl
@[simp] theorem setLink_notice : (s.setLink x).notice = s.notice := rfl
@[simp] theorem setLink_link : (s.setLink x).link = x := rfl
@[simp] theorem setLink_clock : (s.setLink x).clock = s.clock := rfl
@[simp] theorem setLink_freeCount : (s.setLink x).freeCount = s.freeCount := rfl
@[simp] theorem setLink_pending : (s.setLink x).pending = s.pending := rfl
@[simp] theorem setLink_setLink (y : Link) : (s.setLink x).setLink y = s.setLink y := rfl
@[simp] theorem setLink_self : s.setLink s.link = s := rfl
end

section
variable (s : State) (x : Nat)
@[simp] theorem setClock_library : (s.setClock x).library = s.library := rfl
@[simp] theorem setClock_jobs : (s.setClock x).jobs = s.jobs := rfl
@[simp] theorem setClock_buffers : (s.setClock x).buffers = s.buffers := rfl
@[simp] theorem setClock_engine : (s.setClock x).engine = s.engine := rfl
@[simp] theorem setClock_motion : (s.setClock x).motion = s.motion := rfl
@[simp] theorem setClock_trim : (s.setClock x).trim = s.trim := rfl
@[simp] theorem setClock_cycle : (s.setClock x).cycle = s.cycle := rfl
@[simp] theorem setClock_notice : (s.setClock x).notice = s.notice := rfl
@[simp] theorem setClock_link : (s.setClock x).link = s.link := rfl
@[simp] theorem setClock_clock : (s.setClock x).clock = x := rfl
@[simp] theorem setClock_freeCount : (s.setClock x).freeCount = s.freeCount := rfl
@[simp] theorem setClock_pending : (s.setClock x).pending = s.pending := rfl
@[simp] theorem setClock_setClock (y : Nat) : (s.setClock x).setClock y = s.setClock y := rfl
@[simp] theorem setClock_self : s.setClock s.clock = s := rfl
end

section
variable (s : State) (x : Nat)
@[simp] theorem setFreeCount_library : (s.setFreeCount x).library = s.library := rfl
@[simp] theorem setFreeCount_jobs : (s.setFreeCount x).jobs = s.jobs := rfl
@[simp] theorem setFreeCount_buffers : (s.setFreeCount x).buffers = s.buffers := rfl
@[simp] theorem setFreeCount_engine : (s.setFreeCount x).engine = s.engine := rfl
@[simp] theorem setFreeCount_motion : (s.setFreeCount x).motion = s.motion := rfl
@[simp] theorem setFreeCount_trim : (s.setFreeCount x).trim = s.trim := rfl
@[simp] theorem setFreeCount_cycle : (s.setFreeCount x).cycle = s.cycle := rfl
@[simp] theorem setFreeCount_notice : (s.setFreeCount x).notice = s.notice := rfl
@[simp] theorem setFreeCount_link : (s.setFreeCount x).link = s.link := rfl
@[simp] theorem setFreeCount_clock : (s.setFreeCount x).clock = s.clock := rfl
@[simp] theorem setFreeCount_freeCount : (s.setFreeCount x).freeCount = x := rfl
@[simp] theorem setFreeCount_pending : (s.setFreeCount x).pending = s.pending := rfl
@[simp] theorem setFreeCount_setFreeCount (y : Nat) : (s.setFreeCount x).setFreeCount y = s.setFreeCount y := rfl
@[simp] theorem setFreeCount_self : s.setFreeCount s.freeCount = s := rfl
end

section
variable (s : State) (x : List Instr)
@[simp] theorem setPending_library : (s.setPending x).library = s.library := rfl
@[simp] theorem setPending_jobs : (s.setPending x).jobs = s.jobs := rfl
@[simp] theorem setPending_buffers : (s.setPending x).buffers = s.buffers := rfl
@[simp] theorem setPending_engine : (s.setPending x).engine = s.engine := rfl
@[simp] theorem setPending_motion : (s.setPending x).motion = s.motion := rfl
@[simp] theorem setPending_trim : (s.setPending x).trim = s.trim := rfl
@[simp] theorem setPending_cycle : (s.setPending x).cycle = s.cycle := rfl
@[simp] theorem setPending_notice : (s.setPending x).notice = s.notice := rfl
@[simp] theorem setPending_link : (s.setPending x).link = s.link := rfl
@[simp] theorem setPending_clock : (s.setPending x).clock = s.clock := rfl
@[simp] theorem setPending_freeCount : (s.setPending x).freeCount = s.freeCount := rfl
@[simp] theorem setPending_pending : (s.setPending x).pending = x := rfl
@[simp] theorem setPending_setPending (y : List Instr) : (s.setPending x).setPending y = s.setPending y := rfl
@[simp] theorem setPending_self : s.setPending s.pending = s := rfl
end

section
variable (s : State) (t : TowerIdx) (z : ZoneIdx) (x : MotionZone)
@[simp] theorem putZone_library : (s.putZone t z x).library = s.library := rfl
@[simp] theorem putZone_jobs : (s.putZone t z x).jobs = s.jobs := rfl
@[simp] theorem putZone_buffers : (s.putZone t z x).buffers = s.buffers := rfl
@[simp] theorem putZone_engine : (s.putZone t z x).engine = s.engine := rfl
@[simp] theorem putZone_trim : (s.putZone t z x).trim = s.trim := rfl
@[simp] theorem putZone_cycle : (s.putZone t z x).cycle = s.cycle := rfl
@[simp] theorem putZone_notice : (s.putZone t z x).notice = s.notice := rfl
@[simp] theorem putZone_link : (s.putZone t z x).link = s.link := rfl
@[simp] theorem putZone_clock : (s.putZone t z x).clock = s.clock := rfl
@[simp] theorem putZone_freeCount : (s.putZone t z x).freeCount = s.freeCount := rfl
@[simp] theorem putZone_pending : (s.putZone t z x).pending = s.pending := rfl
end

section
variable (s : State) (t : TowerIdx) (z : ZoneIdx) (x : Option Target)
@[simp] theorem putTarget_library : (s.putTarget t z x).library = s.library := rfl
@[simp] theorem putTarget_jobs : (s.putTarget t z x).jobs = s.jobs := rfl
@[simp] theorem putTarget_buffers : (s.putTarget t z x).buffers = s.buffers := rfl
@[simp] theorem putTarget_motion : (s.putTarget t z x).motion = s.motion := rfl
@[simp] theorem putTarget_trim : (s.putTarget t z x).trim = s.trim := rfl
@[simp] theorem putTarget_cycle : (s.putTarget t z x).cycle = s.cycle := rfl
@[simp] theorem putTarget_notice : (s.putTarget t z x).notice = s.notice := rfl
@[simp] theorem putTarget_link : (s.putTarget t z x).link = s.link := rfl
@[simp] theorem putTarget_clock : (s.putTarget t z x).clock = s.clock := rfl
@[simp] theorem putTarget_freeCount : (s.putTarget t z x).freeCount = s.freeCount := rfl
@[simp] theorem putTarget_pending : (s.putTarget t z x).pending = s.pending := rfl
end

section
variable (s : State) (t : TowerIdx) (z : ZoneIdx) (x : TrimZone)
@[simp] theorem putTrim_library : (s.putTrim t z x).library = s.library := rfl
@[simp] theorem putTrim_jobs : (s.putTrim t z x).jobs = s.jobs := rfl
@[simp] theorem putTrim_buffers : (s.putTrim t z x).buffers = s.buffers := rfl
@[simp] theorem putTrim_engine : (s.putTrim t z x).engine = s.engine := rfl
@[simp] theorem putTrim_motion : (s.putTrim t z x).motion = s.motion := rfl
@[simp] theorem putTrim_cycle : (s.putTrim t z x).cycle = s.cycle := rfl
@[simp] theorem putTrim_notice : (s.putTrim t z x).notice = s.notice := rfl
@[simp] theorem putTrim_link : (s.putTrim t z x).link = s.link := rfl
@[simp] theorem putTrim_clock : (s.putTrim t z x).clock = s.clock := rfl
@[simp] theorem putTrim_freeCount : (s.putTrim t z x).freeCount = s.freeCount := rfl
@[simp] theorem putTrim_pending : (s.putTrim t z x).pending = s.pending := rfl
end

section
variable (s : State) (t : TowerIdx) (x : TowerPass)
@[simp] theorem putPass_library : (s.putPass t x).library = s.library := rfl
@[simp] theorem putPass_jobs : (s.putPass t x).jobs = s.jobs := rfl
@[simp] theorem putPass_buffers : (s.putPass t x).buffers = s.buffers := rfl
@[simp] theorem putPass_motion : (s.putPass t x).motion = s.motion := rfl
@[simp] theorem putPass_trim : (s.putPass t x).trim = s.trim := rfl
@[simp] theorem putPass_cycle : (s.putPass t x).cycle = s.cycle := rfl
@[simp] theorem putPass_notice : (s.putPass t x).notice = s.notice := rfl
@[simp] theorem putPass_link : (s.putPass t x).link = s.link := rfl
@[simp] theorem putPass_clock : (s.putPass t x).clock = s.clock := rfl
@[simp] theorem putPass_freeCount : (s.putPass t x).freeCount = s.freeCount := rfl
@[simp] theorem putPass_pending : (s.putPass t x).pending = s.pending := rfl
end

section
variable (s : State) (j : SlotIdx) (x : JobSlot)
@[simp] theorem putJob_library : (s.putJob j x).library = s.library := rfl
@[simp] theorem putJob_buffers : (s.putJob j x).buffers = s.buffers := rfl
@[simp] theorem putJob_engine : (s.putJob j x).engine = s.engine := rfl
@[simp] theorem putJob_motion : (s.putJob j x).motion = s.motion := rfl
@[simp] theorem putJob_trim : (s.putJob j x).trim = s.trim := rfl
@[simp] theorem putJob_cycle : (s.putJob j x).cycle = s.cycle := rfl
@[simp] theorem putJob_notice : (s.putJob j x).notice = s.notice := rfl
@[simp] theorem putJob_link : (s.putJob j x).link = s.link := rfl
@[simp] theorem putJob_clock : (s.putJob j x).clock = s.clock := rfl
@[simp] theorem putJob_freeCount : (s.putJob j x).freeCount = s.freeCount := rfl
@[simp] theorem putJob_pending : (s.putJob j x).pending = s.pending := rfl
end

/-! ### The accessors after an entry update -/

section
variable (s : State) (t u : TowerIdx) (z y : ZoneIdx)

@[simp] theorem putZone_zone (x : MotionZone) :
    (s.putZone t z x).zone u y = if t = u ∧ z = y then x else s.zone u y := by
  simp [State.putZone, State.zone]

@[simp] theorem putTarget_targetOf (x : Option Target) :
    (s.putTarget t z x).targetOf u y = if t = u ∧ z = y then x else s.targetOf u y := by
  simp [State.putTarget, State.targetOf]

@[simp] theorem putTrim_trimOf (x : TrimZone) :
    (s.putTrim t z x).trimOf u y = if t = u ∧ z = y then x else s.trimOf u y := by
  simp [State.putTrim, State.trimOf]

@[simp] theorem putPass_pass (x : TowerPass) : (s.putPass t x).pass u = if t = u then x else s.pass u := by
  simp [State.putPass, State.pass]

@[simp] theorem putPass_targetOf (x : TowerPass) : (s.putPass t x).targetOf u y = s.targetOf u y := rfl

@[simp] theorem putTarget_pass (x : Option Target) : (s.putTarget t z x).pass u = s.pass u := rfl

@[simp] theorem putJob_look (i j : SlotIdx) (x : JobSlot) :
    look (s.putJob i x).jobs j = if i = j then x else look s.jobs j := by
  simp [State.putJob]

@[simp] theorem putZone_queue (x : MotionZone) : (s.putZone t z x).motion.queue = s.motion.queue := rfl
@[simp] theorem putZone_inFlight (x : MotionZone) : (s.putZone t z x).motion.inFlight = s.motion.inFlight := rfl
@[simp] theorem putZone_pressInFlight (x : MotionZone) :
    (s.putZone t z x).motion.pressInFlight = s.motion.pressInFlight := rfl
@[simp] theorem putZone_watch (x : MotionZone) : (s.putZone t z x).motion.watch = s.motion.watch := rfl
end

/-! ### The accessors read one block -/

section
variable {s s' : State}

theorem zone_congr (h : s'.motion = s.motion) (t : TowerIdx) (z : ZoneIdx) : s'.zone t z = s.zone t z := by
  simp [State.zone, h]

theorem targetOf_congr (h : s'.engine = s.engine) (t : TowerIdx) (z : ZoneIdx) : s'.targetOf t z = s.targetOf t z := by
  simp [State.targetOf, h]

theorem pass_congr (h : s'.engine = s.engine) (t : TowerIdx) : s'.pass t = s.pass t := by
  simp [State.pass, h]

theorem trimOf_congr (h : s'.trim = s.trim) (t : TowerIdx) (z : ZoneIdx) : s'.trimOf t z = s.trimOf t z := by
  simp [State.trimOf, h]

theorem running_congr (h : s'.jobs = s.jobs) : s'.running = s.running := by
  simp [State.running, State.runningSlot, h]

theorem tower_congr (h : s'.jobs = s.jobs) (t : TowerIdx) : s'.tower t = s.tower t := by
  simp [State.tower, running_congr h]

theorem record_congr (h : s'.jobs = s.jobs) (j : SlotIdx) (t : TowerIdx) : s'.record j t = s.record j t := by
  simp [State.record, h]

theorem held_congr (h : s'.cycle = s.cycle) : s'.held = s.held := by
  simp [State.held, h]
end

end Sys2Proof.Machine
end

