-- ==== Sys2Proof/Laws/Ops.lean ====
section
/-! SUPPORT. What each shared operation leaves unchanged, block by block, and what the operations over requests, notices,
motion states and dispatch can do. -/

namespace Sys2Proof.Machine

/-! ### Unchanged blocks -/

namespace OnlyChanges

variable {bs cs : List Block} {s t u : State}

theorem refl (bs : List Block) (s : State) : OnlyChanges bs s s := by
  intro b _
  cases b <;> rfl

theorem of_eq (h : t = s) : OnlyChanges bs s t := h ▸ refl bs s

theorem mono (h : OnlyChanges bs s t) (hs : bs ⊆ cs) : OnlyChanges cs s t := fun b hb => h b fun hm => hb (hs hm)

theorem trans (h : OnlyChanges bs s t) (h' : OnlyChanges bs t u) : OnlyChanges bs s u := by
  intro b hb
  have h1 := h b hb
  have h2 := h' b hb
  cases b <;> exact h2.trans h1

/-- Two steps in a row change no block but those the one or the other may. -/
theorem comp (h : OnlyChanges bs s t) (h' : OnlyChanges cs t u) (k : bs ⊆ cs := by decide) : OnlyChanges cs s u :=
  (h.mono k).trans h'

/-- The last of several steps first: `u` comes from `t` by the step `h'`, and `t` from `s`. -/
theorem after (h' : OnlyChanges cs t u) (h : OnlyChanges bs s t) (k : cs ⊆ bs := by decide) : OnlyChanges bs s u :=
  h.trans (h'.mono k)

theorem ite {c : Prop} [Decidable c] (h : OnlyChanges bs s t) (h' : OnlyChanges bs s u) :
    OnlyChanges bs s (if c then t else u) := by
  split
  · exact h
  · exact h'

theorem library (h : OnlyChanges bs s t) (k : Block.library ∉ bs := by decide) : t.library = s.library := h .library k
theorem jobs (h : OnlyChanges bs s t) (k : Block.jobs ∉ bs := by decide) : t.jobs = s.jobs := h .jobs k
theorem buffers (h : OnlyChanges bs s t) (k : Block.buffers ∉ bs := by decide) : t.buffers = s.buffers := h .buffers k
theorem engine (h : OnlyChanges bs s t) (k : Block.engine ∉ bs := by decide) : t.engine = s.engine := h .engine k
theorem motion (h : OnlyChanges bs s t) (k : Block.motion ∉ bs := by decide) : t.motion = s.motion := h .motion k
theorem trim (h : OnlyChanges bs s t) (k : Block.trim ∉ bs := by decide) : t.trim = s.trim := h .trim k
theorem cycle (h : OnlyChanges bs s t) (k : Block.cycle ∉ bs := by decide) : t.cycle = s.cycle := h .cycle k
theorem notice (h : OnlyChanges bs s t) (k : Block.notice ∉ bs := by decide) : t.notice = s.notice := h .notice k
theorem link (h : OnlyChanges bs s t) (k : Block.link ∉ bs := by decide) : t.link = s.link := h .link k
theorem clock (h : OnlyChanges bs s t) (k : Block.clock ∉ bs := by decide) : t.clock = s.clock := h .clock k
theorem freeCount (h : OnlyChanges bs s t) (k : Block.freeCount ∉ bs := by decide) : t.freeCount = s.freeCount :=
  h .freeCount k
theorem pending (h : OnlyChanges bs s t) (k : Block.pending ∉ bs := by decide) : t.pending = s.pending := h .pending k

/-- A fold of operations that each change the listed blocks only does so too. -/
theorem foldl {α : Type} {f : State → α → State} (h : ∀ s a, OnlyChanges bs s (f s a)) (l : List α) (s : State) :
    OnlyChanges bs s (l.foldl f s) := by
  induction l generalizing s with
  | nil => exact refl bs s
  | cons a l ih => exact (h s a).trans (ih (f s a))

end OnlyChanges

/-- Closes the frame of a block update: every other block is the same by definition. -/
theorem onlyChanges_of_blocks {bs : List Block} {s t : State}
    (library : Block.library ∈ bs ∨ t.library = s.library) (jobs : Block.jobs ∈ bs ∨ t.jobs = s.jobs)
    (buffers : Block.buffers ∈ bs ∨ t.buffers = s.buffers) (engine : Block.engine ∈ bs ∨ t.engine = s.engine)
    (motion : Block.motion ∈ bs ∨ t.motion = s.motion) (trim : Block.trim ∈ bs ∨ t.trim = s.trim)
    (cycle : Block.cycle ∈ bs ∨ t.cycle = s.cycle) (notice : Block.notice ∈ bs ∨ t.notice = s.notice)
    (link : Block.link ∈ bs ∨ t.link = s.link) (clock : Block.clock ∈ bs ∨ t.clock = s.clock)
    (freeCount : Block.freeCount ∈ bs ∨ t.freeCount = s.freeCount)
    (pending : Block.pending ∈ bs ∨ t.pending = s.pending) : OnlyChanges bs s t := by
  intro b hb
  cases b
  · exact library.resolve_left hb
  · exact jobs.resolve_left hb
  · exact buffers.resolve_left hb
  · exact engine.resolve_left hb
  · exact motion.resolve_left hb
  · exact trim.resolve_left hb
  · exact cycle.resolve_left hb
  · exact notice.resolve_left hb
  · exact link.resolve_left hb
  · exact clock.resolve_left hb
  · exact freeCount.resolve_left hb
  · exact pending.resolve_left hb

section
variable (s : State)
theorem setLibrary_frame (x) : OnlyChanges [.library] s (s.setLibrary x) := by intro b hb; cases b <;> first | rfl | simp at hb
theorem setJobs_frame (x) : OnlyChanges [.jobs] s (s.setJobs x) := by intro b hb; cases b <;> first | rfl | simp at hb
theorem setBuffers_frame (x) : OnlyChanges [.buffers] s (s.setBuffers x) := by intro b hb; cases b <;> first | rfl | simp at hb
theorem setEngine_frame (x) : OnlyChanges [.engine] s (s.setEngine x) := by intro b hb; cases b <;> first | rfl | simp at hb
theorem setMotion_frame (x) : OnlyChanges [.motion] s (s.setMotion x) := by intro b hb; cases b <;> first | rfl | simp at hb
theorem setTrim_frame (x) : OnlyChanges [.trim] s (s.setTrim x) := by intro b hb; cases b <;> first | rfl | simp at hb
theorem setCycle_frame (x) : OnlyChanges [.cycle] s (s.setCycle x) := by intro b hb; cases b <;> first | rfl | simp at hb
theorem setNotice_frame (x) : OnlyChanges [.notice] s (s.setNotice x) := by intro b hb; cases b <;> first | rfl | simp at hb
theorem setLink_frame (x) : OnlyChanges [.link] s (s.setLink x) := by intro b hb; cases b <;> first | rfl | simp at hb
theorem setClock_frame (x) : OnlyChanges [.clock] s (s.setClock x) := by intro b hb; cases b <;> first | rfl | simp at hb
theorem setFreeCount_frame (x) : OnlyChanges [.freeCount] s (s.setFreeCount x) := by
  intro b hb; cases b <;> first | rfl | simp at hb
theorem putZone_frame (t z x) : OnlyChanges [.motion] s (s.putZone t z x) := setMotion_frame s _
theorem putTarget_frame (t z x) : OnlyChanges [.engine] s (s.putTarget t z x) := setEngine_frame s _
theorem putTrim_frame (t z x) : OnlyChanges [.trim] s (s.putTrim t z x) := setTrim_frame s _
theorem putPass_frame (t x) : OnlyChanges [.engine] s (s.putPass t x) := setEngine_frame s _
theorem putJob_frame (j x) : OnlyChanges [.jobs] s (s.putJob j x) := setJobs_frame s _
end

/-! ### Notices -/

theorem raise_frame (k t d s) : OnlyChanges [.notice] s (raise k t d s) := setNotice_frame s _

@[simp] theorem raise_records (k : NoticeKind) (t : Option TowerIdx) (d : Detail) (s : State) (i : Fin 8) :
    look (raise k t d s).notice.records i =
      if k.num = i then some (mergeNotice (look s.notice.records k.num) t d s.cycle.sheetCount)
      else look s.notice.records i := by
  simp [raise]

@[simp] theorem raise_priorities (k t d s) : (raise k t d s).notice.priorities = s.notice.priorities := rfl
@[simp] theorem raise_enabled (k t d s) : (raise k t d s).notice.enabled = s.notice.enabled := rfl
@[simp] theorem raise_off (k t d s) : (raise k t d s).notice.off = s.notice.off := rfl

/-! ### Requests and responses -/

theorem answer_frame (f code fields s) : OnlyChanges [.link] s (answer f code fields s) := by
  unfold answer
  split
  · exact .refl _ s
  · exact setLink_frame s _

/-- What an answer does to the Link Controller, in the terms of the statements. -/
theorem answer_link (f : Frame) (code : ResultCode) (fields : List Byte) (s : State) :
    (answer f code fields s).link = { s.link with responses := responsesAfter s f code.num fields } := by
  unfold answer responsesAfter Frame.isBroadcast responseFrame
  by_cases h : f.dst = 0x38#8
  · simp [h, Config.broadcast]
  · simp [h, Config.broadcast, byte1, kindResponse]

/-- The state in which a request's handler runs: the request has left the U Receive Queue. -/
def State.taken (s : State) (rest : List Frame) : State := s.setLink { s.link with uReceive := rest }

theorem headRequest_of_waits {s : State} {k : RequestKind} {f : Frame} {rest : List Frame} (h : Waits s k f rest) :
    headRequest s = some (f, s.taken rest) := by
  obtain ⟨h1, h2, _⟩ := h
  simp [headRequest, h1, h2, State.taken, Config.responseCap]

/-- The request at the head of the U Receive Queue is taken: its handler runs with the request gone from the queue, and its
answer goes to the Response Queue. -/
theorem takeRequest_of_waits {s : State} {k : RequestKind} {f : Frame} {rest : List Frame}
    (h : Waits s k f rest) (g : List Byte → State → Reply) :
    takeRequest k g s = answer f (g f.payload (s.taken rest)).code (g f.payload (s.taken rest)).fields
      (g f.payload (s.taken rest)).state := by
  simp [takeRequest, headRequest_of_waits h, h.2.2]

theorem takeRead_of_waits {s : State} {k : RequestKind} {f : Frame} {rest : List Frame}
    (h : Waits s k f rest) (g : List Byte → State → ResultCode × List Byte) :
    takeRead k g s = answer f (g f.payload (s.taken rest)).1 (g f.payload (s.taken rest)).2 (s.taken rest) := by
  simp [takeRead, headRequest_of_waits h, h.2.2]

/-- Where no request of the kind can be taken, nothing happens. -/
theorem takeRequest_of_not_waits {s : State} {k : RequestKind} (h : ∀ f rest, ¬ Waits s k f rest)
    (g : List Byte → State → Reply) : takeRequest k g s = s := by
  unfold takeRequest headRequest
  cases hq : s.link.uReceive with
  | nil => rfl
  | cons f rest =>
    by_cases hr : s.link.responses.length < Config.responseCap
    · have : f.kind ≠ k.code := fun hk => h f rest ⟨hq, hr, hk⟩
      simp [hr, this]
    · simp [hr]

theorem takeRead_of_not_waits {s : State} {k : RequestKind} (h : ∀ f rest, ¬ Waits s k f rest)
    (g : List Byte → State → ResultCode × List Byte) : takeRead k g s = s := by
  unfold takeRead headRequest
  cases hq : s.link.uReceive with
  | nil => rfl
  | cons f rest =>
    by_cases hr : s.link.responses.length < Config.responseCap
    · have : f.kind ≠ k.code := fun hk => h f rest ⟨hq, hr, hk⟩
      simp [hr, this]
    · simp [hr]

theorem taken_frame (s rest) : OnlyChanges [.link] s (s.taken rest) := setLink_frame s _

section
variable (s : State) (rest : List Frame)
@[simp] theorem taken_library : (s.taken rest).library = s.library := rfl
@[simp] theorem taken_jobs : (s.taken rest).jobs = s.jobs := rfl
@[simp] theorem taken_buffers : (s.taken rest).buffers = s.buffers := rfl
@[simp] theorem taken_engine : (s.taken rest).engine = s.engine := rfl
@[simp] theorem taken_motion : (s.taken rest).motion = s.motion := rfl
@[simp] theorem taken_trim : (s.taken rest).trim = s.trim := rfl
@[simp] theorem taken_cycle : (s.taken rest).cycle = s.cycle := rfl
@[simp] theorem taken_notice : (s.taken rest).notice = s.notice := rfl
@[simp] theorem taken_link : (s.taken rest).link = { s.link with uReceive := rest } := rfl
@[simp] theorem taken_clock : (s.taken rest).clock = s.clock := rfl
@[simp] theorem taken_freeCount : (s.taken rest).freeCount = s.freeCount := rfl
@[simp] theorem taken_pending : (s.taken rest).pending = s.pending := rfl
end

/-- The whole of a request's step, for a handler that leaves the Link Controller alone: what it leaves in the other blocks, and
the request answered with its code and fields. -/
theorem takeRequest_answered {s : State} {k : RequestKind} {f : Frame} {rest : List Frame} (h : Waits s k f rest)
    (g : List Byte → State → Reply) {bs : List Block} (hf : OnlyChanges bs (s.taken rest) (g f.payload (s.taken rest)).state)
    (hl : Block.link ∉ bs) :
    Answered s f rest (g f.payload (s.taken rest)).code.num (g f.payload (s.taken rest)).fields (takeRequest k g s)
      ∧ OnlyChanges (Block.link :: bs) s (takeRequest k g s)
      ∧ OnlyChanges [.link] (g f.payload (s.taken rest)).state (takeRequest k g s) := by
  rw [takeRequest_of_waits h]
  refine ⟨?_, ?_, answer_frame _ _ _ _⟩
  · unfold Answered
    rw [answer_link, hf.link hl]
    simp [responsesAfter, hf.link hl]
  · refine ((taken_frame s rest).mono (by simp)).trans ((hf.mono (by simp)).trans ?_)
    exact (answer_frame _ _ _ _).mono (by simp)

theorem takeRead_answered {s : State} {k : RequestKind} {f : Frame} {rest : List Frame} (h : Waits s k f rest)
    (g : List Byte → State → ResultCode × List Byte) :
    Answered s f rest (g f.payload (s.taken rest)).1.num (g f.payload (s.taken rest)).2 (takeRead k g s)
      ∧ OnlyChanges [.link] s (takeRead k g s) := by
  rw [takeRead_of_waits h]
  refine ⟨?_, (taken_frame s rest).trans (answer_frame _ _ _ _)⟩
  unfold Answered
  rw [answer_link]
  simp [responsesAfter]

/-! ### Settle Watch, motion states, averaging -/

theorem settleTest_frame (t s) : OnlyChanges [.motion, .notice] s (settleTest t s) := by
  unfold settleTest
  split
  · exact ((setMotion_frame s _).mono (by simp)).trans ((raise_frame _ _ _ _).mono (by simp))
  · exact .refl _ s

theorem settleTest_zones (t : TowerIdx) (s : State) : (settleTest t s).motion.zones = s.motion.zones := by
  unfold settleTest
  split <;> rfl

@[simp] theorem settleTest_zone (t : TowerIdx) (s : State) (u : TowerIdx) (z : ZoneIdx) :
    (settleTest t s).zone u z = s.zone u z := by
  simp [State.zone, settleTest_zones]

theorem setMotionState_frame (t z m s) : OnlyChanges [.motion, .notice] s (setMotionState t z m s) := by
  unfold setMotionState
  split
  · exact .refl _ s
  · exact ((putZone_frame s _ _ _).mono (by simp)).trans (settleTest_frame _ _)

@[simp] theorem setMotionState_zone (t : TowerIdx) (z : ZoneIdx) (m : MotionState) (s : State) (u : TowerIdx) (y : ZoneIdx) :
    (setMotionState t z m s).zone u y = if t = u ∧ z = y then { s.zone t z with state := m } else s.zone u y := by
  unfold setMotionState
  split
  · next h =>
    split
    · next h' => obtain ⟨rfl, rfl⟩ := h'; rw [← h]
    · rfl
  · simp

theorem clearWatches_frame (p s) : OnlyChanges [.motion] s (clearWatches p s) := setMotion_frame s _

theorem averagingReset_frame (t z s) : OnlyChanges [.trim] s (averagingReset t z s) := setTrim_frame s _

@[simp] theorem averagingReset_trimOf (t : TowerIdx) (z : ZoneIdx) (s : State) (u : TowerIdx) (y : ZoneIdx) :
    (averagingReset t z s).trimOf u y = if t = u ∧ z = y then (s.trimOf t z).resetAveraging else s.trimOf u y := by
  simp [averagingReset]

/-! ### Dispatch -/

theorem appendDrive_frame (e s) : OnlyChanges [.motion] s (appendDrive e s) := setMotion_frame s _

theorem startMove_frame (t z k s) : OnlyChanges [.motion, .trim] s (startMove t z k s) :=
  ((setMotion_frame s _).mono (by simp)).trans ((averagingReset_frame _ _ _).mono (by simp))

@[simp] theorem startMove_zone (t : TowerIdx) (z : ZoneIdx) (k : Nat) (s : State) (u : TowerIdx) (y : ZoneIdx) :
    (startMove t z k s).zone u y =
      if t = u ∧ z = y then { s.zone t z with state := .moving, commanded := some k, tag := (s.zone t z).tag + 1 }
      else s.zone u y := by
  simp [startMove, averagingReset, State.zone, State.putTrim]

@[simp] theorem startMove_motion (t : TowerIdx) (z : ZoneIdx) (k : Nat) (s : State) :
    (startMove t z k s).motion = { s.motion with
      zones := zput s.motion.zones t z { s.zone t z with state := .moving, commanded := some k, tag := (s.zone t z).tag + 1 }
      inFlight := put s.motion.inFlight t (look s.motion.inFlight t + 1)
      pressInFlight := s.motion.pressInFlight + 1
      queue := s.motion.queue ++ [.move t z k ((s.zone t z).tag + 1)] } := rfl

@[simp] theorem startMove_trimOf (t : TowerIdx) (z : ZoneIdx) (k : Nat) (s : State) (u : TowerIdx) (y : ZoneIdx) :
    (startMove t z k s).trimOf u y = if t = u ∧ z = y then (s.trimOf t z).resetAveraging else s.trimOf u y := by
  unfold startMove
  rw [averagingReset_trimOf]
  rfl

theorem scanStep_frame {s s' : State} (h : scanStep s = some s') : OnlyChanges [.motion, .trim] s s' := by
  unfold scanStep at h
  split at h
  · cases h
  · split at h
    · cases h
    · cases h
      exact (startMove_frame _ _ _ _).trans ((setMotion_frame _ _).mono (by simp))

theorem scanLoop_frame (n s) : OnlyChanges [.motion, .trim] s (scanLoop n s) := by
  induction n generalizing s with
  | zero => exact .refl _ s
  | succ n ih =>
    unfold scanLoop
    split
    · exact .refl _ s
    · next s' h => exact (scanStep_frame h).trans (ih s')

theorem dispatchScan_frame (s) : OnlyChanges [.motion, .trim] s (dispatchScan s) := scanLoop_frame _ s

theorem scanIfPending_frame (b s) : OnlyChanges [.motion, .trim] s (scanIfPending b s) := by
  unfold scanIfPending
  split
  · exact dispatchScan_frame s
  · exact .refl _ s

theorem releasePlace_frame (t s) : OnlyChanges [.motion] s (releasePlace t s) := setMotion_frame s _

theorem evalRestricted_frame (s) : OnlyChanges [.motion, .notice] s (evalRestricted s) := by
  unfold evalRestricted
  dsimp only
  split
  · exact ((setMotion_frame s _).mono (by simp)).trans ((raise_frame _ _ _ _).mono (by simp))
  · exact (setMotion_frame s _).mono (by simp)

/-! ### Key Targets -/

theorem keyRetarget_frame (t z k s) : OnlyChanges [.motion] s (keyRetarget t z k s) := by
  unfold keyRetarget
  split <;> exact setMotion_frame s _

theorem handTarget_frame (t z k s) : OnlyChanges [.motion, .notice] s (handTarget t z k s) := by
  unfold handTarget
  split
  · exact setMotionState_frame _ _ _ _
  · exact setMotionState_frame _ _ _ _
  · exact setMotionState_frame _ _ _ _
  · split
    · exact .refl _ s
    · split
      · exact (keyRetarget_frame _ _ _ _).mono (by simp)
      · exact .refl _ s
  · split
    · exact .refl _ s
    · split
      · exact (keyRetarget_frame _ _ _ _).mono (by simp)
      · exact .refl _ s
  · exact .refl _ s

theorem dropTargets_frame (p s) : OnlyChanges [.engine] s (dropTargets p s) := setEngine_frame s _

theorem withdrawTarget_frame (t z s) : OnlyChanges [.motion, .notice] s (withdrawTarget t z s) := setMotionState_frame _ _ _ _

/-- What a zone's motion fields become when it is told it has no Key Target; every other zone's stay. -/
@[simp] theorem withdrawTarget_zone (t : TowerIdx) (z : ZoneIdx) (s : State) (u : TowerIdx) (y : ZoneIdx) :
    (withdrawTarget t z s).zone u y =
      if t = u ∧ z = y then { s.zone t z with state := (s.zone t z).state.withoutTarget } else s.zone u y := by
  simp [withdrawTarget]

theorem withoutTarget_idem (m : MotionState) : m.withoutTarget.withoutTarget = m.withoutTarget := by cases m <;> rfl

/-- The zones of a tower that are told they have no Key Target, and no others, change their motion state by R75. -/
@[simp] theorem withdrawTargets_zone (t : TowerIdx) (zs : List ZoneIdx) (s : State) (u : TowerIdx) (y : ZoneIdx) :
    (withdrawTargets t zs s).zone u y =
      if t = u ∧ y ∈ zs then { s.zone u y with state := (s.zone u y).state.withoutTarget } else s.zone u y := by
  unfold withdrawTargets
  induction zs generalizing s with
  | nil => simp
  | cons z rest ih =>
    rw [List.foldl_cons, ih]
    by_cases ht : t = u
    · subst ht
      by_cases hz : z = y
      · subst hz
        simp [withoutTarget_idem]
      · simp [hz, Ne.symm hz]
    · simp [ht]

theorem withdrawTargets_frame (t zs s) : OnlyChanges [.motion, .notice] s (withdrawTargets t zs s) :=
  OnlyChanges.foldl (fun s z => withdrawTarget_frame t z s) zs s

theorem rewriteTarget_frame (t z g k s) : OnlyChanges [.engine, .motion, .notice] s (rewriteTarget t z g k s) :=
  ((putTarget_frame s _ _ _).mono (by simp)).trans ((handTarget_frame _ _ _ _).mono (by simp))

theorem zoneUpdate_frame (t z s) : OnlyChanges [.engine, .motion, .notice] s (zoneUpdate t z s) := by
  unfold zoneUpdate
  split
  · exact .refl _ s
  · split
    · exact rewriteTarget_frame _ _ _ _ _
    · exact .refl _ s

theorem zoneUpdates_frame (t zs s) : OnlyChanges [.engine, .motion, .notice] s (zoneUpdates t zs s) :=
  OnlyChanges.foldl (fun s z => zoneUpdate_frame t z s) zs s

theorem clampTarget_frame (t k z s) : OnlyChanges [.engine, .motion, .notice] s (clampTarget t k z s) := by
  unfold clampTarget
  split
  · exact .refl _ s
  · split
    · exact rewriteTarget_frame _ _ _ _ _
    · exact .refl _ s

theorem clampTargets_frame (t k s) : OnlyChanges [.engine, .motion, .notice] s (clampTargets t k s) :=
  OnlyChanges.foldl (fun s z => clampTarget_frame t k z s) allZones s

/-! ### Passes and the Changeover Hold -/

theorem beginPass_frame (t s) : OnlyChanges [.engine] s (beginPass t s) := putPass_frame s _ _

theorem passCause_frame (t s) : OnlyChanges [.engine] s (passCause t s) := by
  unfold passCause
  split
  · exact putPass_frame s _ _
  · split
    · exact beginPass_frame _ _
    · exact .refl _ s

theorem leaveHold_frame (t s) : OnlyChanges [.cycle, .notice] s (leaveHold t s) := by
  unfold leaveHold
  split
  · dsimp only
    split
    · exact (setCycle_frame s _).mono (by simp)
    · exact ((setCycle_frame s _).mono (by simp)).trans ((raise_frame _ _ _ _).mono (by simp))
  · exact .refl _ s

/-! ### Job Store and buffers -/

theorem storeJob_frame (j x s) : OnlyChanges [.jobs] s (storeJob j x s) := putJob_frame s _ _

theorem writeRecord_frame (j t r s) : OnlyChanges [.jobs] s (writeRecord j t r s) := storeJob_frame _ _ _

theorem readinessEvaluation_frame (j s) : OnlyChanges [.jobs] s (readinessEvaluation j s) := by
  unfold readinessEvaluation
  split
  · exact .refl _ s
  · exact putJob_frame s _ _

theorem freeBuffers_frame (p s) : OnlyChanges [.buffers] s (freeBuffers p s) := setBuffers_frame s _

end Sys2Proof.Machine
end

