-- ==== Sys2Proof/Laws/Families.lean ====
section
/-! SUPPORT. The frame of every command family: which blocks a request's handler and an event's step may change. -/

namespace Sys2Proof.Machine

/-- A load request changes no block but those its accepted body may. -/
theorem loadRequest_frame {p : List Byte} {ok : Bool} {refusal : List Byte} {body : SlotIdx → TowerIdx → Verdict} {s : State}
    {bs : List Block} (h : ∀ j t s' extra, body j t = .accept s' extra → OnlyChanges bs s s') :
    OnlyChanges bs s (loadRequest p ok refusal body s).state := by
  unfold loadRequest
  dsimp only
  split
  · split
    · split
      · exact .refl _ s
      · split
        · exact .refl _ s
        · next j t _ _ _ _ s' extra hb => exact h _ _ _ _ hb
    · exact .refl _ s
  · exact .refl _ s

/-! ### Ink curves -/

theorem changeLibrary_frame (c x s) : OnlyChanges [.library, .jobs] s (changeLibrary c x s) :=
  ((setLibrary_frame s _).mono (by simp)).trans ((setJobs_frame _ _).mono (by simp))

theorem loadCurve_frame (p s) : OnlyChanges [.library, .jobs] s (loadCurve p s).state := by
  unfold loadCurve
  dsimp only
  repeat' split
  all_goals first | exact .refl _ s | exact changeLibrary_frame _ _ s

theorem eraseCurve_frame (p s) : OnlyChanges [.library, .jobs] s (eraseCurve p s).state := by
  unfold eraseCurve
  dsimp only
  repeat' split
  all_goals first | exact .refl _ s | exact changeLibrary_frame _ _ s

/-! ### Jobs -/

theorem readiness_write_frame (j t r s) : OnlyChanges [.jobs] s (readinessEvaluation j (writeRecord j t r s)) :=
  (writeRecord_frame _ _ _ _).trans (readinessEvaluation_frame _ _)

theorem setJobLabel_frame (p s) : OnlyChanges [.jobs] s (setJobLabel p s).state := by
  unfold setJobLabel
  dsimp only
  repeat' split
  all_goals first | exact .refl _ s | exact (storeJob_frame _ _ _).trans (readinessEvaluation_frame _ _)

theorem clearTowerTrim_frame (t s) : OnlyChanges [.trim] s (clearTowerTrim t s) := setTrim_frame s _

theorem disableTower_frame (t s) :
    OnlyChanges [.engine, .motion, .trim, .cycle, .notice] s (disableTower t s) := by
  unfold disableTower
  exact .after (leaveHold_frame _ _) (.after (clearTowerTrim_frame _ _) (.after (putPass_frame _ _ _)
    (.after (withdrawTargets_frame _ _ _) (.after (dropTargets_frame _ _) (.after (clearWatches_frame _ s) (.refl _ s))))))

theorem configurePass_frame (t old new s) : OnlyChanges [.engine, .motion, .notice] s (configurePass t old new s) := by
  unfold configurePass
  split
  · exact .after (passCause_frame _ _) (.refl _ s)
  · split
    · exact .after (zoneUpdates_frame _ _ _) (.after (passCause_frame _ _) (.after (putPass_frame s _ _) (.refl _ s)))
    · exact .after (passCause_frame _ _) (.refl _ s)

theorem handOnConfigure_frame (t old new s) :
    OnlyChanges [.engine, .motion, .trim, .cycle, .notice] s (handOnConfigure t old new s) := by
  unfold handOnConfigure
  dsimp only
  refine .after (dispatchScan_frame _) ?_
  have h1 : OnlyChanges [.engine, .motion, .trim, .cycle, .notice] s
      (if new.keyMax < old.keyMax then clampTargets t new.keyMax s else s) :=
    .ite ((clampTargets_frame t new.keyMax s).mono (by decide)) (.refl _ s)
  have h2 : OnlyChanges [.engine, .motion, .trim, .cycle, .notice] s
      (if old.enabled && !new.enabled then disableTower t _ else _) :=
    .ite (.after (disableTower_frame t _) h1) h1
  have h3 : OnlyChanges [.engine, .motion, .trim, .cycle, .notice] s
      (if old.enabled != new.enabled then evalRestricted _ else _) := .ite (.after (evalRestricted_frame _) h2) h2
  exact .ite (.after (configurePass_frame t old new _) h3) h3

theorem configureTower_frame (p s) :
    OnlyChanges [.jobs, .engine, .motion, .trim, .cycle, .notice] s (configureTower p s).state := by
  unfold configureTower
  split
  · exact .refl _ s
  · refine loadRequest_frame fun j t s' extra h => ?_
    dsimp only at h
    cases h
    split
    · exact OnlyChanges.comp (readiness_write_frame _ _ _ _) ((handOnConfigure_frame _ _ _ _).mono (by decide))
    · exact (readiness_write_frame _ _ _ _).mono (by decide)

theorem handOnTargets_frame (t l s) : OnlyChanges [.engine, .motion, .trim, .notice] s (handOnTargets t l s) := by
  unfold handOnTargets
  exact .after (scanIfPending_frame _ _) (.after (zoneUpdates_frame _ _ _) (.after (setTrim_frame s _) (.refl _ s)))

theorem setTargets_frame (p s) : OnlyChanges [.jobs, .engine, .motion, .trim, .notice] s (setTargets p s).state := by
  unfold setTargets
  split
  · exact .refl _ s
  · refine loadRequest_frame fun j t s' extra h => ?_
    dsimp only at h
    cases h
    split
    · exact OnlyChanges.comp (readiness_write_frame _ _ _ _) ((handOnTargets_frame _ _ _).mono (by decide))
    · exact (readiness_write_frame _ _ _ _).mono (by decide)

theorem loadZoneMap_frame (p s) : OnlyChanges [.jobs] s (loadZoneMap p s).state := by
  unfold loadZoneMap
  split
  · exact .refl _ s
  · refine loadRequest_frame fun j t s' extra h => ?_
    split at h
    · cases h
    · split at h
      · cases h
      · cases h
        exact readiness_write_frame _ _ _ _

theorem emptySlot_frame (j s) : OnlyChanges [.jobs, .buffers] s (emptySlot j s) :=
  ((freeBuffers_frame _ s).mono (by simp)).trans ((putJob_frame _ _ _).mono (by simp))

theorem clearJob_frame (p s) : OnlyChanges [.jobs, .buffers] s (clearJob p s).state := by
  unfold clearJob
  repeat' split
  all_goals first | exact .refl _ s | exact emptySlot_frame _ s

/-! ### Strips -/

theorem putBuffer_frame (s : State) (i b) : OnlyChanges [.buffers] s (s.putBuffer i b) := setBuffers_frame s _

theorem stripOpen_frame (p s) : OnlyChanges [.jobs, .buffers] s (stripOpen p s).state := by
  unfold stripOpen
  split
  · exact .refl _ s
  · refine loadRequest_frame fun j t s' extra h => ?_
    unfold openBody at h
    dsimp only at h
    split at h
    · cases h
    · split at h
      · cases h
        refine OnlyChanges.trans (t := match s.bufferOf j t with | some ib => s.putBuffer ib.1 _ | none => s) ?_
          ((readinessEvaluation_frame _ _).mono (by simp))
        split
        · exact (putBuffer_frame _ _ _).mono (by simp)
        · exact .refl _ s
      · split at h
        · cases h
        · cases h
          exact ((putBuffer_frame _ _ _).mono (by simp)).trans ((readiness_write_frame _ _ _ _).mono (by simp))

theorem stripSegment_frame (p s) : OnlyChanges [.jobs, .buffers] s (stripSegment p s).state := by
  unfold stripSegment
  dsimp only
  split
  · exact .refl _ s
  · split
    · exact .refl _ s
    · split
      · exact .refl _ s
      · refine loadRequest_frame fun j t s' extra h => ?_
        unfold segmentBody at h
        dsimp only at h
        split at h
        · split at h
          · cases h
            exact ((putBuffer_frame _ _ _).mono (by simp)).trans ((readinessEvaluation_frame _ _).mono (by simp))
          · cases h
        · cases h

theorem stripClose_frame (p s) : OnlyChanges [.jobs, .buffers, .engine] s (stripClose p s).state := by
  unfold stripClose
  split
  · exact .refl _ s
  · refine loadRequest_frame fun j t s' extra h => ?_
    unfold closeBody at h
    dsimp only at h
    split at h
    · split at h
      · cases h
        have w : ∀ i r, OnlyChanges [.jobs, .buffers, .engine] s
            (readinessEvaluation j (writeRecord j t r (s.putBuffer i none))) := fun i r =>
          ((putBuffer_frame _ _ _).mono (by simp)).trans ((readiness_write_frame _ _ _ _).mono (by simp))
        split
        · exact (w _ _).trans ((passCause_frame _ _).mono (by simp))
        · exact w _ _
      · cases h
    · cases h

/-! ### Key targets -/

theorem handSweep_frame (t v s) : OnlyChanges [.motion] s (handSweep t v s) := by
  unfold handSweep
  split
  · exact setMotion_frame s _
  · exact appendDrive_frame _ _

theorem valueOrFree_frame (v s) : OnlyChanges [.freeCount] s (valueOrFree v s).2 := by
  unfold valueOrFree
  split
  · exact .refl _ s
  · exact setFreeCount_frame s _

theorem completeSweep_frame (t s) : OnlyChanges [.engine, .motion, .freeCount] s (completeSweep t s) := by
  unfold completeSweep
  split
  · exact (putPass_frame _ _ _).mono (by simp)
  · dsimp only
    split
    · exact (valueOrFree_frame _ _).mono (by simp)
    · exact .after (handSweep_frame _ _ _) (.after (putPass_frame _ _ _) (.after (valueOrFree_frame _ s) (.refl _ s)))

theorem rerunOrEnd_frame (t s) : OnlyChanges [.engine] s (rerunOrEnd t s) := by
  unfold rerunOrEnd
  split
  · exact beginPass_frame _ _
  · exact putPass_frame _ _ _

theorem setWatch_frame (t s) : OnlyChanges [.motion, .notice] s (setWatch t s) :=
  ((setMotion_frame s _).mono (by simp)).trans (settleTest_frame _ _)

theorem completePass_frame (t s) :
    OnlyChanges [.engine, .motion, .cycle, .notice, .freeCount] s (completePass t s) := by
  unfold completePass
  exact .after (rerunOrEnd_frame _ _) (.after (leaveHold_frame _ _) (.after (setWatch_frame _ _)
    (.after (completeSweep_frame _ _) (.refl _ s))))

theorem computeZone_frame (t z s) : OnlyChanges [.freeCount] s (computeZone t z s).2 := valueOrFree_frame _ s

theorem computeAt_frame (t z s) : OnlyChanges [.engine, .motion, .trim, .notice, .freeCount] s (computeAt t z s) := by
  unfold computeAt
  exact .after (putPass_frame _ _ _) (.after (scanIfPending_frame _ _) (.after (rewriteTarget_frame _ _ _ _ _)
    (.after (computeZone_frame t z s) (.refl _ s))))

theorem zoneComputation_frame (t s) :
    OnlyChanges [.engine, .motion, .trim, .cycle, .notice, .freeCount] s (zoneComputation t s) := by
  unfold zoneComputation
  split
  · split
    · exact .refl _ s
    · dsimp only
      split
      · exact OnlyChanges.comp (computeAt_frame _ _ _) ((completePass_frame _ _).mono (by decide))
      · exact (computeAt_frame _ _ _).mono (by decide)
  · exact .refl _ s

theorem setOffsets_frame (p s) : OnlyChanges [.jobs, .engine, .motion, .trim, .notice] s (setOffsets p s).state := by
  unfold setOffsets
  dsimp only
  split
  · exact .refl _ s
  · split
    · exact .refl _ s
    · split
      · exact .refl _ s
      · refine loadRequest_frame fun j t s' extra h => ?_
        unfold offsetsBody at h
        dsimp only at h
        split at h
        · cases h
        · split at h
          · cases h
          · cases h
            have w := fun r => OnlyChanges.after (bs := [.jobs, .engine, .motion, .trim, .notice])
              (readiness_write_frame j t r s) (.refl _ s)
            exact .ite (.after (scanIfPending_frame _ _) (.after (zoneUpdates_frame _ _ _) (w _))) (w _)

/-! ### Key motion -/

theorem setMotionLimits_frame (p s) : OnlyChanges [.motion, .trim, .notice] s (setMotionLimits p s).state := by
  unfold setMotionLimits
  split
  · exact .refl _ s
  · split
    · dsimp only
      refine .after (dispatchScan_frame _) (.after (evalRestricted_frame _) ?_)
      exact (setMotion_frame s _).mono (by decide)
    · exact .refl _ s

theorem clearFault_frame (t z s) : OnlyChanges [.motion, .notice] s (clearFault t z s) :=
  ((putZone_frame s _ _ _).mono (by simp)).trans (setMotionState_frame _ _ _ _)

theorem clearKeyFault_frame (p s) : OnlyChanges [.motion, .trim, .notice] s (clearKeyFault p s).state := by
  unfold clearKeyFault
  repeat' split
  all_goals first
    | exact .refl _ s
    | exact .after (scanIfPending_frame _ _)
        (.after (OnlyChanges.foldl (fun s z => clearFault_frame _ z s) _ s) (.refl _ s))

theorem endMove_frame (t z s) : OnlyChanges [.motion] s (endMove t z s) :=
  (releasePlace_frame t s).trans (putZone_frame _ _ _ _)

theorem arrived_frame (t z s) : OnlyChanges [.motion, .trim, .notice] s (arrived t z s) := by
  unfold arrived
  exact .after (dispatchScan_frame _) (.after (setMotionState_frame _ _ _ _) (.after (putZone_frame _ _ _ _)
    (.after (endMove_frame t z s) (.refl _ s))))

theorem failMove_frame (t z s) : OnlyChanges [.motion, .trim, .notice] s (failMove t z s) := by
  unfold failMove
  exact .after (dispatchScan_frame _) (.after (raise_frame _ _ _ _) (.after (setMotionState_frame _ _ _ _)
    (.after (endMove_frame t z s) (.refl _ s))))

theorem keyReport_frame (t z tag p st s) : OnlyChanges [.motion, .trim, .notice] s (keyReport t z tag p st s) := by
  unfold keyReport
  dsimp only
  split
  · split
    · exact .after (failMove_frame _ _ _) (.after (putZone_frame s _ _ _) (.refl _ s))
    · exact .after (arrived_frame _ _ _) (.after (putZone_frame s _ _ _) (.refl _ s))
  · exact .after (putZone_frame s _ _ _) (.refl _ s)

theorem takeKeyReport_frame (t p s) : OnlyChanges [.motion, .trim, .notice] s (takeKeyReport t p s) := by
  unfold takeKeyReport
  repeat' split
  all_goals first | exact .refl _ s | exact keyReport_frame _ _ _ _ _ s

theorem expireMove_frame (t z s) : OnlyChanges [.motion, .trim, .notice] s (expireMove t z s) := by
  unfold expireMove
  split
  · dsimp only
    have h := OnlyChanges.after (bs := [.motion, .trim, .notice])
      (setMotionState_frame t z .retry (s.putZone t z { s.zone t z with tag := (s.zone t z).tag + 1 }))
      (.after (putZone_frame s _ _ _) (.refl _ s))
    split
    · exact .after (appendDrive_frame _ _) h
    · exact h
  · exact failMove_frame _ _ _
  all_goals exact .refl _ s

theorem moveTimeout_frame (t z s) : OnlyChanges [.motion, .trim, .notice, .clock] s (moveTimeout t z s) := by
  unfold moveTimeout
  split
  · exact .refl _ s
  · exact .after (expireMove_frame _ _ _) (.after (putZone_frame _ _ _ _) (.after (setClock_frame s _) (.refl _ s)))

theorem tick_frame (s) : OnlyChanges [.motion, .trim, .notice, .clock] s (tick s) := by
  unfold tick
  refine .after (OnlyChanges.foldl (bs := [.motion, .trim, .notice, .clock]) (fun s p => ?_) _ _)
    (.after (setClock_frame s _) (.refl _ s))
  exact .ite (moveTimeout_frame _ _ _) (.refl _ s)

/-! ### Density trim -/

theorem trimUpdate_frame (t z d n s) : OnlyChanges [.engine, .motion, .trim, .notice] s (trimUpdate t z d n s) := by
  have h0 : ∀ x, OnlyChanges [.engine, .motion, .trim, .notice] s (s.putTrim t z x) := fun x =>
    .after (putTrim_frame s t z x) (.refl _ s)
  unfold trimUpdate
  dsimp only
  split
  · split
    · exact .after (zoneUpdate_frame _ _ _) (.after (raise_frame _ _ _ _) (.after (setTrim_frame _ _) (h0 _)))
    · exact .after (zoneUpdate_frame _ _ _) (h0 _)
  · split
    · exact .after (raise_frame _ _ _ _) (.after (setTrim_frame _ _) (h0 _))
    · exact h0 _

theorem windowTest_frame (t z a s) : OnlyChanges [.engine, .motion, .trim, .notice] s (windowTest t z a s).1 := by
  unfold windowTest
  dsimp only
  repeat' split
  all_goals first
    | exact .refl _ s
    | exact (raise_frame _ _ _ _).mono (by decide)
    | exact trimUpdate_frame _ _ _ _ _

theorem countReading_frame (t z v s) : OnlyChanges [.engine, .motion, .trim, .notice] s (countReading t z v s).1 := by
  unfold countReading
  dsimp only
  split
  · exact .after (windowTest_frame _ _ _ _) (.after (putTrim_frame _ _ _ _) (.refl _ s))
  · exact (putTrim_frame _ _ _ _).mono (by decide)

theorem takeReading_frame (t z a v s) : OnlyChanges [.engine, .motion, .trim, .notice] s (takeReading t z a v s).1 := by
  unfold takeReading
  split
  · exact .refl _ s
  · split
    · exact (averagingReset_frame _ _ _).mono (by decide)
    · exact .after (scanIfPending_frame _ _) (countReading_frame _ _ _ _)

theorem takeReadings_frame (t a z vs s) :
    OnlyChanges [.engine, .motion, .trim, .notice] s (takeReadings t a z vs s).1 := by
  induction vs generalizing z s with
  | nil => exact .refl _ s
  | cons v vs ih =>
    unfold takeReadings
    dsimp only
    split
    · exact (takeReading_frame _ _ _ _ _).trans (ih _ _)
    · exact ih _ _

theorem singleRule_frame (t b s) : OnlyChanges [.trim] s (singleRule t b s) := by
  unfold singleRule
  split
  · exact setTrim_frame s _
  · exact .refl _ s

theorem takeDensity_frame (p a s) : OnlyChanges [.engine, .motion, .trim, .notice] s (takeDensity p a s) := by
  unfold takeDensity
  split
  · split
    · exact .refl _ s
    · exact (takeReadings_frame _ _ _ _ _).trans ((singleRule_frame _ _ _).mono (by decide))
  · exact .refl _ s

theorem armTrim_frame (p s) : OnlyChanges [.trim] s (armTrim p s).state := by
  unfold armTrim
  repeat' split
  all_goals first | exact .refl _ s | exact setTrim_frame s _

theorem clearTrim_frame (p s) : OnlyChanges [.engine, .motion, .trim, .notice] s (clearTrim p s).state := by
  unfold clearTrim
  dsimp only
  split
  · exact .refl _ s
  · split
    · exact .refl _ s
    · exact .after (scanIfPending_frame _ _) (.after (OnlyChanges.foldl (fun s q => zoneUpdate_frame _ _ s) _ _)
        (.after (setTrim_frame _ _) (.refl _ s)))

theorem loadTrimBands_frame (p s) : OnlyChanges [.trim] s (loadTrimBands p s).state := by
  unfold loadTrimBands
  repeat' split
  all_goals first | exact .refl _ s | exact setTrim_frame s _

/-! ### Sheet marks, press phase and changeover -/

theorem exchangeJobs_frame (a s) : OnlyChanges [.jobs, .buffers] s (exchangeJobs a s) := by
  unfold exchangeJobs
  dsimp only
  split
  · exact (emptySlot_frame _ _).trans ((putJob_frame _ _ _).mono (by simp))
  · exact (putJob_frame _ _ _).mono (by simp)

theorem changeoverTower_frame (t s) : OnlyChanges [.engine, .motion, .notice] s (changeoverTower t s) := by
  unfold changeoverTower
  exact .after (clampTargets_frame _ _ _) (.after (withdrawTargets_frame _ _ s) (.refl _ s))

theorem changeoverTargets_frame (s) : OnlyChanges [.engine, .motion, .notice] s (changeoverTargets s) := by
  unfold changeoverTargets
  exact .after (OnlyChanges.foldl (fun s t => changeoverTower_frame t s) _ _)
    (.after (dropTargets_frame _ _) (.after (setEngine_frame s _) (.refl _ s)))

theorem changeoverTrim_frame (c s) : OnlyChanges [.trim] s (changeoverTrim c s) := setTrim_frame s _

theorem beginPasses_frame (s) : OnlyChanges [.engine] s (beginPasses s) := by
  unfold beginPasses
  refine OnlyChanges.foldl (fun s t => ?_) _ _
  split
  · exact passCause_frame _ _
  · exact .refl _ s

theorem takeChangeover_frame (a s) :
    OnlyChanges [.jobs, .buffers, .engine, .motion, .trim, .cycle, .notice] s (takeChangeover a s) := by
  unfold takeChangeover
  exact .after (dispatchScan_frame _) (.after (beginPasses_frame _) (.after (changeoverTrim_frame _ _)
    (.after (evalRestricted_frame _) (.after (clearWatches_frame _ _) (.after (changeoverTargets_frame _)
      (.after (exchangeJobs_frame _ _) (.after (setCycle_frame s _) (.refl _ s))))))))

theorem takeArmed_frame (s) :
    OnlyChanges [.jobs, .buffers, .engine, .motion, .trim, .cycle, .notice] s (takeArmed s) := by
  unfold takeArmed
  split
  · exact takeChangeover_frame _ _
  · exact .refl _ s

theorem pressPhase_frame (p s) :
    OnlyChanges [.jobs, .buffers, .engine, .motion, .trim, .cycle, .notice] s (pressPhase p s).state := by
  unfold pressPhase
  split
  · exact .refl _ s
  · split
    · exact .refl _ s
    · have h0 : ∀ x, OnlyChanges [.jobs, .buffers, .engine, .motion, .trim, .cycle, .notice] s (s.setCycle x) := fun x =>
        .after (setCycle_frame s x) (.refl _ s)
      dsimp only
      split
      · split
        · exact .after (takeArmed_frame _) (h0 _)
        · exact h0 _
      · split
        · exact .after (dispatchScan_frame _) (.after (takeArmed_frame _) (h0 _))
        · exact .after (dispatchScan_frame _) (h0 _)

theorem changeover_frame (p s) :
    OnlyChanges [.jobs, .buffers, .engine, .motion, .trim, .cycle, .notice] s (changeover p s).state := by
  have arm : ∀ j x y, OnlyChanges [.jobs, .buffers, .engine, .motion, .trim, .cycle, .notice] s
      ((s.putJob j x).setCycle y) := fun j x y =>
    .after (setCycle_frame _ _) (.after (putJob_frame s _ _) (.refl _ s))
  unfold changeover
  split
  · exact .refl _ s
  · split
    · exact .refl _ s
    · split
      · split
        · exact .refl _ s
        · split
          · exact .refl _ s
          · split
            · exact .refl _ s
            · dsimp only
              split
              · dsimp only
                exact .after (takeArmed_frame _) (arm _ _ _)
              · exact arm _ _ _
      · exact .refl _ s

theorem cancelChangeover_frame (p s) : OnlyChanges [.jobs, .cycle] s (cancelChangeover p s).state := by
  unfold cancelChangeover
  repeat' split
  all_goals first
    | exact .refl _ s
    | exact .after (setCycle_frame _ _) (.after (putJob_frame s _ _) (.refl _ s))

theorem sheetMark_frame (s) :
    OnlyChanges [.jobs, .buffers, .engine, .motion, .trim, .cycle, .notice] s (sheetMark s) := by
  unfold sheetMark
  split
  · exact .refl _ s
  · exact .after (takeArmed_frame _) (.after (setCycle_frame s _) (.refl _ s))

/-! ### Notices and the link -/

theorem setNoticeControl_frame (p s) : OnlyChanges [.notice] s (setNoticeControl p s).state := by
  unfold setNoticeControl
  repeat' split
  all_goals first | exact .refl _ s | exact setNotice_frame s _

theorem clearPending_frame (p s) : OnlyChanges [.notice] s (clearPending p s).state := by
  unfold clearPending
  repeat' split
  all_goals first | exact .refl _ s | exact setNotice_frame s _

theorem noticeTurn_frame (s) : OnlyChanges [.notice, .link] s (noticeTurn s) := by
  unfold noticeTurn
  repeat' split
  all_goals first
    | exact (setLink_frame s _).mono (by simp)
    | exact ((setNotice_frame s _).mono (by simp)).trans ((setLink_frame _ _).mono (by simp))

theorem placeRequest_frame (f s) : OnlyChanges [.notice, .link] s (placeRequest f s) := by
  unfold placeRequest
  split
  · exact (setLink_frame s _).mono (by simp)
  · exact (raise_frame _ _ _ s).mono (by simp)

theorem placeDown_frame (f s) : OnlyChanges [.notice, .link] s (placeDown f s) := by
  unfold placeDown
  split
  · exact (setLink_frame s _).mono (by simp)
  · exact (raise_frame _ _ _ s).mono (by simp)

theorem placeUp_frame (f s) : OnlyChanges [.notice, .link] s (placeUp f s) := by
  unfold placeUp
  split
  · exact (setLink_frame s _).mono (by simp)
  · exact (raise_frame _ _ _ s).mono (by simp)

theorem placeDensity_frame (f s) : OnlyChanges [.notice, .link] s (placeDensity f s) := by
  unfold placeDensity
  split
  · exact (setLink_frame s _).mono (by simp)
  · exact (raise_frame _ _ _ s).mono (by simp)

theorem routeU_frame (f s) : OnlyChanges [.notice, .link] s (routeU f s) := by
  unfold routeU
  repeat' split
  · exact placeRequest_frame _ _
  · exact (placeRequest_frame _ _).trans (placeDown_frame _ _)
  · exact placeDown_frame _ _

theorem routeD_frame (f s) : OnlyChanges [.motion, .trim, .notice, .link] s (routeD f s) := by
  unfold routeD
  split
  · exact (takeKeyReport_frame _ _ _).mono (by decide)
  · split
    · exact .refl _ s
    · exact (placeUp_frame _ _).mono (by decide)

theorem routeM_frame (f s) : OnlyChanges [.notice, .link] s (routeM f s) := by
  unfold routeM
  split
  · exact placeDensity_frame _ _
  · exact .refl _ s

theorem receive_frame {bs : List Block} {p : Port} {route : Frame → State → State}
    (h : ∀ f s, OnlyChanges bs s (route f s)) (hn : Block.notice ∈ bs) (bytes : List Byte) (s : State) :
    OnlyChanges bs s (receive p route bytes s) := by
  unfold receive
  split
  · exact .refl _ s
  · split
    · exact (raise_frame _ _ _ s).mono (by simpa using hn)
    · exact h _ s

theorem arbitrateU_frame (s) : OnlyChanges [.notice, .link] s (arbitrateU s) := by
  unfold arbitrateU
  repeat' split
  · exact (setLink_frame s _).mono (by simp)
  · exact (setLink_frame s _).mono (by simp)
  · exact noticeTurn_frame s

theorem startTimer_frame (e s) : OnlyChanges [.motion] s (startTimer e s) := by
  unfold startTimer
  split
  · exact putZone_frame _ _ _ _
  · exact .refl _ s

theorem arbitrateD_frame (s) : OnlyChanges [.motion, .link] s (arbitrateD s) := by
  unfold arbitrateD sendDrive
  repeat' split
  · exact .after (startTimer_frame _ _) (.after (setLink_frame _ _) (.after (setMotion_frame s _) (.refl _ s)))
  · exact (setLink_frame s _).mono (by simp)
  · exact (setLink_frame s _).mono (by simp)

theorem densityFrameTaken_frame (s) :
    OnlyChanges [.engine, .motion, .trim, .notice, .link] s (densityFrameTaken s) := by
  unfold densityFrameTaken
  split
  · exact .refl _ s
  · exact .after (takeDensity_frame _ _ _) (.after (setLink_frame s _) (.refl _ s))

theorem unknownRequest_frame (s) : OnlyChanges [.link] s (unknownRequest s) := by
  unfold unknownRequest headRequest
  split
  · exact .refl _ s
  · next f s1 h =>
    split
    · exact .refl _ s
    · split at h
      · cases h
      · split at h
        · cases h
          exact (setLink_frame s _).trans (answer_frame _ _ _ _)
        · cases h

end Sys2Proof.Machine
end

