-- ==== Sys2Proof/WellFormed.lean ====
section
/-! DEFINITION. Which commands are well formed. Tower, zone and strap numbers are bounded by their types; a received
frame is a run of bytes (R143), so it has at least one. -/

namespace Sys2Proof

/-- A command is well formed when a frame it carries is a run of at least one byte (R143: a frame is a run of bytes that
ends when the line stays idle). Every other operand is bounded by its type. -/
def Instr.wellFormed : Instr → Bool
  | .portUFrameReceived bytes => !bytes.isEmpty
  | .portDFrameReceived bytes => !bytes.isEmpty
  | .portMFrameReceived bytes => !bytes.isEmpty
  | .loadCurve => true
  | .eraseCurve => true
  | .readCurve => true
  | .setJobLabel => true
  | .configureTower => true
  | .setTargets => true
  | .loadZoneMap => true
  | .setOffsets => true
  | .clearJob => true
  | .readSettings => true
  | .stripOpen => true
  | .stripSegment => true
  | .stripClose => true
  | .zoneComputation _ => true
  | .setMotionLimits => true
  | .clearKeyFault => true
  | .moveTimeout _ _ => true
  | .densityFrameTaken => true
  | .armTrim => true
  | .clearTrim => true
  | .loadTrimBands => true
  | .pressPhase => true
  | .changeover => true
  | .cancelChangeover => true
  | .sheetMark => true
  | .setNoticeControl => true
  | .clearPending => true
  | .readZone => true
  | .readTower => true
  | .readStatus => true
  | .bridgeReset => true
  | .unknownRequestKind => true
  | .portUTransmitArbiter => true
  | .portDTransmitArbiter => true
  | .powerOnReset => true
  | .resetRelease _ => true

end Sys2Proof
end

