-- ==== Sys2Proof/Tests/Slice0.lean ====
section
/-! SUPPORT. The author's tests: ill-formed commands are refused, the spec's worked examples, and for each statement with
hypotheses a state and operands that meet them. -/

namespace Sys2Proof.Tests

set_option Elab.async false

open Sys2Proof Sys2Proof.Machine

/-! ### States and requests for the tests -/

/-- The machine after power-on with RESET released and the straps 0. -/
def free : State := State.reset.setLink { State.reset.link with resetHeld := false }

/-- A request frame from the console to the own address. -/
def request (k : RequestKind) (p : List Byte) : Frame := ⟨0x30, 0x3F, k.code, p⟩

/-- The state with that request alone in the U Receive Queue. -/
def asked (k : RequestKind) (p : List Byte) (s : State) : State :=
  s.setLink { s.link with uReceive := [request k p] }

/-- The next state of a command. -/
def after (c : Instr) (s : State) : State :=
  match exec c s with
  | .next t => t
  | .fault _ => s
  | .refused _ => s

/-- The payload of the response to a request. -/
def reply (c : Instr) (k : RequestKind) (p : List Byte) (s : State) : List Nat :=
  match (after c (asked k p s)).link.responses with
  | f :: _ => f.payload.map BitVec.toNat
  | [] => []

theorem waits_asked (k : RequestKind) (p : List Byte) (s : State) (h : s.link.responses.length < 4) :
    Waits (asked k p s) k (request k p) [] := ⟨rfl, h, rfl⟩

/-- The KEY curve of section 1.7. -/
def curveK : Curve := ⟨.key, none, [(0, 120), (200, 900), (600, 2300), (1000, 3400)]⟩

/-- The SWEEP curve of section 1.7. -/
def curveS : Curve := ⟨.sweep, none, [(0, 600), (300, 450), (700, 450), (1000, 300)]⟩

/-- The Curve Library of the worked cases: slots 5 and 12. -/
def lib : Library := put (put (Vector.replicate 32 none) 5 (some curveK)) 12 (some curveS)

/-- The record of tower 3 in section 4.11. -/
def record3 : TowerSettings :=
  { TowerSettings.default with
    enabled := true, keyCurve := some 5, sweepCurve := some 12, zoneMap := some ⟨8, 0, 40⟩, strip := .closed
    coverage := some [121, 281, 560, 960, 9, 60, 360, 0], offsets := List.replicate 8 0 }

/-- A job with this record for tower 3, which is ready. -/
def jobOf (r : TowerSettings) : Job :=
  ⟨none, put (Vector.replicate 12 .default) 3 r, put (Vector.replicate 12 false) 3 true⟩

/-- A press with one job, in slot 0. -/
def press (role : Role) (r : TowerSettings) : State :=
  (free.setLibrary lib).setJobs (put (Vector.replicate 2 .empty) 0 (.held role (jobOf r)))

/-- The same with a changeover to slot 0 armed. -/
def armedPress : State := (press .armed record3).setCycle { State.reset.cycle with phase := .print, armed := some ⟨0, true⟩ }

/-- The running press of section 4.11 with its pass at zone `z` and the tower sweep of the previous job. -/
def passAt (z : Nat) (rerun : Bool) : State := (press .running record3).putPass 3 ⟨.active, z, rerun, some 294, some 480⟩

/-- The running press with zone 0 of tower 3 in a motion state, at the position and Key Target given. -/
def zoneIn (m : MotionState) (actual : Option Nat) (k : Nat) (commanded : Option Nat) : State :=
  ((press .running record3).putTarget 3 0 (some ⟨141, k, k⟩)).putZone 3 0 ⟨m, actual, commanded, 41, none, 0⟩

/-- `zoneIn` with the Settle Watch of tower 3 set. -/
def watchedZone (m : MotionState) (actual : Option Nat) (k : Nat) (commanded : Option Nat) : State :=
  let s := zoneIn m actual k commanded
  s.setMotion { s.motion with watch := put s.motion.watch 3 true }

/-- A Key Report of zone 0 of tower 3, ARRIVED at position 9, with the tag of its MOVE. -/
def arrival : Frame := ⟨0x30, 0x13, 0x48, [0, 41, 0, 9, 0]⟩

/-! ### Ill-formed commands -/

theorem test_emptyFrameIsIllFormed :
    (Instr.portUFrameReceived []).wellFormed = false ∧ (Instr.portDFrameReceived []).wellFormed = false
      ∧ (Instr.portMFrameReceived []).wellFormed = false := by decide

theorem test_noWordSpellsACommand : decodeTableWord 16 0x4812 = none := rfl

/-! ### The spec's worked examples -/

/-- Section 1.7. -/
theorem test_keyCurveEvaluations :
    [0, 50, 137, 200, 409, 600, 999, 1000].map curveK.eval
      = [some 120, some 315, some 654, some 900, some 1632, some 2300, some 3397, some 3400] := by decide +kernel

/-- Section 1.7: ties on a falling segment round away from zero. -/
theorem test_sweepCurveEvaluations :
    [25, 175, 300, 700, 850, 1000].map curveS.eval
      = [some 587, some 512, some 450, some 450, some 375, some 300] := by decide +kernel

/-- Section 3.8: the descending strip with faults. -/
theorem test_descendingStrip :
    let b := takeColumns ⟨8, 0, 40⟩ (takeColumns ⟨8, 0, 40⟩ (.fresh 0 3 16 .descending 8) 0
      [900, 61, 65, 47, 0, 0, 1000, 1200]) 6 [990, 0, 800, 500, 500, 300, 300, 205, 100, 100, 0, 0]
    b.coverage ⟨8, 0, 40⟩ = [121, 281, 560, 960, 9, 60, 360, 0]
      ∧ (b.receivedCount, b.duplicateCount, b.excessCount, b.clampedCount) = (16, 2, 2, 1) := by decide +kernel

/-- Section 4.10: zone 0 of tower 0. -/
theorem test_stageArithmetic :
    effectiveCoverage 32 [425, 300, 182] 0 = 409 ∧ baseOpening 1632 1075 = 1713 ∧ keyTarget 1713 (-24) 15 3800 = 1704
      ∧ effectiveCoverage 32 [425, 300, 182] 1 = 301 ∧ baseOpening 4095 2048 = 4095 ∧ keyTarget 3790 30 20 3800 = 3800
      ∧ keyTarget 20 (-35) (-10) 3800 = 0 := by decide +kernel

/-- Section 4.11: the last zone, the sweep of 453 and the completion. -/
theorem test_completionAppendsTheSweep :
    let t := after (.zoneComputation 3) (passAt 7 false)
    (t.targetOf 3 7).map Target.e = some 45 ∧ (t.pass 3).sweep = some 453 ∧ (t.pass 3).state = .none
      ∧ (t.pass 3).cursor = 8 ∧ t.motion.queue.getLast? = some (.sweep 3 453) := by decide +kernel

/-- R96: the arrival of the last zone in motion clears the watch and raises SETTLED, and the arrival of another does not. -/
theorem test_lastArrivalRaisesSettled :
    let last := watchedZone .moving none 9 (some 9)
    let another := last.putZone 3 1 ⟨.retry, none, some 9, 0, none, 0⟩
    (look (after (.portDFrameReceived arrival.bytes) last).notice.records 7).map (fun r => look r.towers 3) = some true
      ∧ look (after (.portDFrameReceived arrival.bytes) last).motion.watch 3 = false
      ∧ (look (after (.portDFrameReceived arrival.bytes) another).notice.records 7).isNone = true
      ∧ look (after (.portDFrameReceived arrival.bytes) another).motion.watch 3 = true := by decide +kernel

/-- Section 6.4: the table of trim steps. -/
theorem test_trimSteps :
    [0, 51, 85, 100, 170, 250, 900].map Trim.reset.stepAt = [some 4, some 8, some 11, some 12, some 20, some 30, some 30] := by
  decide +kernel

/-- Section 6.12: beyond the last band there is no step. -/
theorem test_noStepBeyondTheBands :
    let u := { Trim.reset with large := ⟨250, 120, 200, 30⟩ }
    u.stepAt 500 = none ∧ u.stepAt 440 = some 30 := by decide +kernel

/-- Section 6.12: a trim pushed beyond its limit. -/
theorem test_trimHeldAtItsLimit :
    let s := ((press .running record3).putTrim 3 0 ⟨392, 0, 0, none⟩).setTrim
      { ((press .running record3).putTrim 3 0 ⟨392, 0, 0, none⟩).trim with armed := Vector.replicate 12 true }
    let t := (windowTest 3 0 1280 s).1
    (t.trimOf 3 0).trim = 400 ∧ look t.trim.saturated 3 = true ∧ (look t.notice.records 4).isSome = true := by
  decide +kernel

/-- The check value of the CRC that R143 describes, over the bytes 31 to 39. -/
theorem test_crcCheckValue : crc [0x31, 0x32, 0x33, 0x34, 0x35, 0x36, 0x37, 0x38, 0x39] = 0x29B1 := by decide +kernel

/-- Section 5.13: the first Move Timeout of a MOVING zone. -/
theorem test_firstTimeoutRetries :
    let s := (zoneIn .moving none 2000 (some 2000)).putZone 3 0 ⟨.moving, none, some 2000, 7, some 1500, 0⟩
    let t := after (.moveTimeout 3 0) s
    t.zone 3 0 = ⟨.retry, none, some 2000, 8, none, 0⟩ ∧ t.motion.queue = [.move 3 0 2000 8] := by decide +kernel

/-- R157, R160: the report after power-on. -/
theorem test_readStatusAfterPowerOn :
    reply .readStatus .readStatus [] free
      = [0x3A, 0, 0x48, 0x12, 1, 0x30, 0, 0, 0, 0, 0, 0, 0, 0xFF, 0, 0, 0, 0, 0] := by decide +kernel

/-- R145: straps 1, 0, 1 give the address 0x35. -/
theorem test_strapsGiveTheAddress : (after (.resetRelease 5) State.reset).link.ownAddress = 0x35 := by decide +kernel

set_option maxRecDepth 20000 in
/-- Section 7.9: a Changeover in IDLE is taken at once. -/
theorem test_changeoverInIdle :
    reply .changeover .changeover [0, 0] (press .ready record3) = [0x29, 0, 4, 0, 0xFF, 1] := by decide +kernel

/-! ### States that meet the statements' hypotheses -/

theorem witness_EmptyQueueIsOneMillisecond :
    free.pending = [] ∧ (∀ u z e, (free.zone u z).timer = some e → free.clock + 1 < e)
      ∧ ((zoneIn .moving none 9 (some 9)).putZone 3 0 ⟨.moving, none, some 9, 1, some 1, 0⟩).pending = [] := by
  refine ⟨rfl, ?_, rfl⟩
  intro u z e h
  have : free.zone u z = .reset := zlook_replicate _ u z
  simp [this, MotionZone.reset] at h

theorem witness_FramesReadBack :
    (⟨0, 0, 0, List.replicate 240 0⟩ : Frame).payload.length ≤ 240
      ∧ parseFrame [0x30, 0x3F, 0x3A, 0, 0xAB, 0xE3] = some ⟨0x30, 0x3F, 0x3A, []⟩ := by decide +kernel

/-- One run of bytes for each test of R144, and a good one. -/
theorem witness_DamagedFramesAreDiscarded :
    free.link.resetHeld = false ∧ ([] : List Byte).length < 6
      ∧ 240 < (([0, 0, 0, 241, 0, 0] : List Byte).getD 3 0).toNat
      ∧ ([0, 0, 0, 1, 0, 0] : List Byte).length ≠ (([0, 0, 0, 1, 0, 0] : List Byte).getD 3 0).toNat + 6
      ∧ ([0, 0, 0, 0, 0, 0] : List Byte).drop 4 ≠ checkBytes [0, 0, 0, 0]
      ∧ ([0x30, 0x3F, 0x3A, 0, 0xAB, 0xE3] : List Byte).drop 4 = checkBytes [0x30, 0x3F, 0x3A, 0] := by decide +kernel

/-- The state with a frame queue full. -/
def full (s : State) : State :=
  s.setLink { s.link with
    uReceive := List.replicate 8 (request .readStatus []), downForward := List.replicate 16 (request .readStatus [])
    upForward := List.replicate 16 (request .readStatus []), mReceive := List.replicate 4 (request .readStatus [], 0) }

theorem witness_PortURoutesByDestination :
    free.link.resetHeld = false ∧ free.link.ownAddress ≠ 0x38 ∧ (request .readStatus []).dst = free.link.ownAddress
      ∧ free.link.uReceive.length < 8 ∧ free.link.downForward.length < 16
      ∧ (full free).link.resetHeld = false ∧ ¬ (full free).link.uReceive.length < 8
      ∧ ¬ (full free).link.downForward.length < 16 := by decide +kernel

theorem witness_PortDRoutesByKindAndDestination :
    free.link.resetHeld = false ∧ (⟨0x3F, 0x1B, 0x48, [0, 0, 0, 0, 0]⟩ : Frame).src.toNat = 0x10 + (11 : TowerIdx).val
      ∧ (⟨0x3F, 0x1B, 0x48, []⟩ : Frame).payload.length ≠ 5
      ∧ 0x1B < (⟨0x3F, 0x1C, 0x48, []⟩ : Frame).src.toNat ∧ (0x3F : Byte) ≠ free.link.ownAddress
      ∧ free.link.upForward.length < 16 ∧ 16 ≤ (full free).link.upForward.length := by decide +kernel

theorem witness_PortMQueuesDensityFrames :
    free.link.resetHeld = false ∧ (⟨0, 0, 0x50, []⟩ : Frame).payload.length ≤ 240 ∧ free.link.mReceive.length < 4
      ∧ 4 ≤ (full free).link.mReceive.length ∧ (⟨0, 0, 0x51, []⟩ : Frame).kind ≠ 0x50 := by decide +kernel

/-- The state with one record of each of two kinds. -/
def noticed : State := raise .keyFault (some 1) (.zone 1 17) (raise .settled (some 3) (.tower 3) free)

theorem witness_PortUArbiterServesInOrder :
    (full free).link.responses = [] ∧ (full free).link.upForward ≠ [] ∧ noticed.link.responses = []
      ∧ noticed.link.upForward = [] ∧ (look noticed.notice.records 0).isSome = true
      ∧ look noticed.notice.enabled 0 = true ∧ noticed.notice.off = false
      ∧ look noticed.notice.priorities 0 < look noticed.notice.priorities 7
      ∧ (after .readStatus (asked .readStatus [] free)).link.responses ≠ [] := by decide +kernel

/-- The running press with a MOVE or a SWEEP waiting. -/
def driving (e : DriveEntry) : State := appendDrive e (zoneIn .moving (some 5) 9 (some 9))

theorem witness_PortDArbiterServesInOrder :
    (driving (.move 3 0 9 41)).motion.queue = [.move 3 0 9 41] ∧ (driving (.sweep 3 453)).motion.queue = [.sweep 3 453]
      ∧ free.motion.queue = [] ∧ free.link.downForward = [] ∧ (full free).link.downForward ≠ [] := by decide +kernel

theorem witness_EachRequestIsAnsweredOnce :
    ((.bridgeReset, .bridgeReset) : Instr × RequestKind) ∈ requestCommands
      ∧ Waits (asked .bridgeReset [] free) .bridgeReset (request .bridgeReset []) []
      ∧ ∀ f rest, ¬ Waits free .bridgeReset f rest :=
  ⟨by decide, waits_asked _ _ _ (by decide), fun _ _ h => nomatch h.1⟩

/-- A fixed payload too long, and of each kind with a list one too short to hold its count and one that disagrees with it. -/
theorem witness_UnknownKindsAndWrongLengthsAreRefused :
    (∀ k : RequestKind, (⟨0x30, 0x3F, 0x40, []⟩ : Frame).kind ≠ k.code)
      ∧ fixedLength .bridgeReset ≠ some ([0] : List Byte).length
      ∧ Waits (asked .bridgeReset [0] free) .bridgeReset (request .bridgeReset [0]) []
      ∧ Waits (asked .loadCurve [0, 0] free) .loadCurve (request .loadCurve [0, 0]) []
      ∧ ([0, 0] : List Byte).length < 3 ∧ u8 [0, 0, 8] 2 ≤ 8 ∧ ([0, 0, 8] : List Byte).length < 4 + u8 [0, 0, 8] 2
      ∧ (2 ≤ u8 [0, 0, 0, 9] 3 ∧ u8 [0, 0, 0, 9] 3 ≤ 9 ∧ ([0, 0, 0, 9] : List Byte).length ≠ 4 + 0 + 4 * u8 [0, 0, 0, 9] 3)
      ∧ ([0] : List Byte).length < 2 ∧ (u8 [0, 16] 1 ≤ 16 ∧ ([0, 16] : List Byte).length ≠ 2 + u8 [0, 16] 1)
      ∧ (1 ≤ u8 [0, 3, 0, 48] 3 ∧ u8 [0, 3, 0, 48] 3 ≤ 48 ∧ ([0, 3, 0, 48] : List Byte).length ≠ 4 + 2 * u8 [0, 3, 0, 48] 3)
      ∧ (1 ≤ u8 [0, 3, 0, 0, 96] 4 ∧ u8 [0, 3, 0, 0, 96] 4 ≤ 96
        ∧ ([0, 3, 0, 0, 96] : List Byte).length ≠ 5 + 2 * u8 [0, 3, 0, 0, 96] 4) :=
  ⟨fun k => by cases k <;> decide, by decide, waits_asked _ _ _ (by decide), waits_asked _ _ _ (by decide), by decide⟩

/-- A request whose fields are all in range, two with the slot or the tower just out of it, and one with a field just out of it. -/
theorem witness_LoadRequestsCheckFieldsThenArmed :
    let good : List Byte := byte1 0 ++ byte1 3 ++ byte1 47 ++ byte1 1 ++ byte2 0
    let slot : List Byte := byte1 2 ++ byte1 3 ++ byte1 47 ++ byte1 1 ++ byte2 0
    let tower : List Byte := byte1 0 ++ byte1 12 ++ byte1 47 ++ byte1 1 ++ byte2 0
    let field : List Byte := byte1 0 ++ byte1 3 ++ byte1 48 ++ byte1 1 ++ byte2 0
    Waits (asked .setOffsets good armedPress) .setOffsets (request .setOffsets good) [] ∧ good.length = 4 + 2 * u8 good 3
      ∧ (0 : SlotIdx).val = u8 good 0 ∧ (3 : TowerIdx).val = u8 good 1 ∧ (look armedPress.jobs 0).inRole .armed = true
      ∧ ¬ (47 < u8 good 2 ∨ u8 good 3 < 1 ∨ 48 < u8 good 3) ∧ 2 ≤ u8 slot 0 ∧ 12 ≤ u8 tower 1 ∧ 47 < u8 field 2 :=
  ⟨waits_asked _ _ _ (by decide), by decide +kernel⟩

theorem witness_ReadStatusReportsTheMoment :
    Waits (asked .readStatus [] armedPress) .readStatus (request .readStatus []) [] ∧ (request .readStatus []).payload = [] :=
  ⟨waits_asked _ _ _ (by decide), rfl⟩

theorem witness_ReadTowerReportsItsEntries :
    Waits (asked .readTower [11] armedPress) .readTower (request .readTower [11]) []
      ∧ (11 : Byte).toNat = (11 : TowerIdx).val ∧ 12 ≤ (12 : Byte).toNat ∧ (12 : Byte) ≠ 0xFF :=
  ⟨waits_asked _ _ _ (by decide), by decide⟩

/-- A run that ends at zone 47, a request out of range, and a zone with and one without a Key Target. -/
theorem witness_ReadZoneEntriesReadBack :
    Waits (asked .readZone [0, 3, 32, 16] (zoneIn .pending none 9 none)) .readZone (request .readZone [0, 3, 32, 16]) []
      ∧ (32 : Byte).toNat + (16 : Byte).toNat ≤ 48 ∧ 48 < (33 : Byte).toNat + (16 : Byte).toNat
      ∧ (zoneIn .pending none 9 none).targetOf 3 0 = some ⟨141, 9, 9⟩ ∧ (zoneIn .pending none 9 none).targetOf 3 1 = none
      ∧ ((zoneIn .pending none 9 none).record 0 3).coverage.isSome = true :=
  ⟨waits_asked _ _ _ (by decide), by decide +kernel⟩

theorem witness_ReadCurveReportsSlotAndProtection :
    Waits (asked .readCurve [5] (press .running record3)) .readCurve (request .readCurve [5]) []
      ∧ look (press .running record3).library 5 = some curveK ∧ look (press .running record3).library 31 = none
      ∧ 32 ≤ (32 : Byte).toNat ∧ (look (look (press .running record3).jobs 0).job.towers 3).keyCurve = some 5 :=
  ⟨waits_asked _ _ _ (by decide), by decide +kernel⟩

theorem witness_ReadSettingsReportsTheRecord :
    Waits (asked .readSettings [0, 11] armedPress) .readSettings (request .readSettings [0, 11]) []
      ∧ look armedPress.jobs 1 = .empty ∧ 2 ≤ (2 : Byte).toNat ∧ 12 ≤ (12 : Byte).toNat :=
  ⟨waits_asked _ _ _ (by decide), by decide +kernel⟩

/-- The payload of a Load Curve that carries the KEY curve of section 1.7. -/
def curvePayload (slot : Nat) : List Byte :=
  [BitVec.ofNat 8 slot, 0] ++ byte1 0 ++ [] ++ byte1 4 ++ curveK.vertices.flatMap fun v => byte2 v.1 ++ byte2 v.2

theorem witness_LoadCurveReplacesTheSlot :
    Waits (asked .loadCurve (curvePayload 31) (press .running record3)) .loadCurve (request .loadCurve (curvePayload 31)) []
      ∧ curveK.valid = true ∧ (press .running record3).inUse 5 = true ∧ (press .running record3).inUse 31 = false
      ∧ (∀ v ∈ curveK.vertices, v.1 < 65536 ∧ v.2 < 65536) ∧ { curveK with vertices := [(0, 0)] }.valid = false :=
  ⟨waits_asked _ _ _ (by decide), by decide +kernel⟩

theorem witness_EraseCurveEmptiesTheSlot :
    Waits (asked .eraseCurve [31] (press .running record3)) .eraseCurve (request .eraseCurve [31]) []
      ∧ (press .running record3).inUse 5 = true ∧ (press .running record3).inUse 31 = false ∧ 32 ≤ (32 : Byte).toNat :=
  ⟨waits_asked _ _ _ (by decide), by decide +kernel⟩

theorem witness_CurvesInUseAreFixed :
    exec .sheetMark (press .running record3) = .next (after .sheetMark (press .running record3))
      ∧ look (press .running record3).jobs 0 = .held .running (jobOf record3)
      ∧ (look (jobOf record3).towers 3).sweepCurve = some 12 := ⟨rfl, by decide +kernel⟩

theorem witness_CurveEvaluationInterpolates :
    look lib 0 = none ∧ look lib 12 = some curveS ∧ curveS.kind ≠ .key ∧ look lib 5 = some curveK ∧ curveK.valid = true ∧ curveK.vertices.getLast? = some (1000, 3400)
      ∧ curveK.vertices = [(0, 120)] ++ (200, 900) :: (600, 2300) :: [(1000, 3400)] := by decide +kernel

theorem witness_SetJobLabelWritesTheLabel :
    Waits (asked .setJobLabel ([0, 2, 0x20, 0x7E]) (press .ready record3)) .setJobLabel
        (request .setJobLabel [0, 2, 0x20, 0x7E]) []
      ∧ (look (press .ready record3).jobs 0).inRole .armed = false ∧ (look armedPress.jobs 0).inRole .armed = true
      ∧ 0x7E < (0x7F : Byte).toNat ∧ 2 ≤ (2 : Byte).toNat ∧ 16 < (List.replicate 17 (0x41 : Byte)).length := ⟨waits_asked _ _ _ (by decide), by decide +kernel⟩

/-- A Configure Tower payload for tower 3 of slot 0, at the greatest values of its fields. -/
def configPayload (on : Bool) : List Byte :=
  byte1 0 ++ byte1 3 ++ byte1 (if on then 1 else 0) ++ byte1 5 ++ byte1 0xFF ++ byte1 64 ++ byte2 2048 ++ byte2 4095 ++ byte1 15
    ++ byte1 15 ++ byte1 15

theorem witness_ConfigureTowerWritesNineFields :
    Waits (asked .configureTower (configPayload true) (press .ready record3)) .configureTower
        (request .configureTower (configPayload true)) []
      ∧ (look (press .ready record3).jobs 0).inRole .armed = false
      ∧ (look (press .ready record3).jobs 0).inRole .running = false := ⟨waits_asked _ _ _ (by decide), by decide +kernel⟩

/-- Tower 3 is the last of the Hold Tower Set, and of one of two. -/
theorem witness_DisablingARunningTowerClearsIt :
    let held := fun u : TowerIdx => put (put (Vector.replicate 12 false) 3 true) u true
    Waits (asked .configureTower (configPayload false) (press .running record3)) .configureTower
        (request .configureTower (configPayload false)) []
      ∧ configOk (configPayload false) = true ∧ u8 (configPayload false) 2 = 0
      ∧ (press .running record3).runningSlot = some 0 ∧ ((press .running record3).tower 3).enabled = true
      ∧ (look (held 3) 3 = true ∧ ∀ v, v ≠ 3 → look (held 3) v = false) ∧ look (held 11) 11 = true :=
  ⟨waits_asked _ _ _ (by decide), by decide +kernel⟩

/-- A pass abandoned at zone 4 whose tower its new references leave ready, and one that they leave not ready; and a tower left
disabled. -/
theorem witness_ConfiguringARunningTowerCausesAPass :
    let new := record3.configure (configPayload true)
    let lost : State := (passAt 4 false).setLibrary (Vector.replicate 32 none)
    let off := press .running { record3 with enabled := false }
    Waits (asked .configureTower (configPayload true) (passAt 4 false)) .configureTower
        (request .configureTower (configPayload true)) []
      ∧ configOk (configPayload true) = true ∧ u8 (configPayload true) 2 = 1 ∧ (passAt 4 false).runningSlot = some 0
      ∧ ((passAt 4 false).pass 3).state = .active ∧ record3.sweepCurve ≠ new.sweepCurve
      ∧ towerReady (passAt 4 false).library new = true ∧ towerReady lost.library new = false
      ∧ (lost.pass 3).cursor ≤ (4 : ZoneIdx).val
      ∧ configOk (configPayload false) = true ∧ (off.record 0 3).enabled = false ∧ off.runningSlot = some 0 :=
  ⟨waits_asked _ _ _ (by decide), by decide +kernel⟩

/-- A Set Targets payload for tower 3 of slot 0 with trim limit 300. -/
def targetsPayload : List Byte :=
  byte1 0 ++ byte1 3 ++ byte2 3000 ++ byte2 500 ++ byte2 0 ++ byte1 16 ++ byte1 255 ++ byte2 300 ++ byte1 1

/-- The running press with zone 0 of tower 3 at trim 391. -/
def trimmed : State := (zoneIn .atTarget (some 9) 9 none).putTrim 3 0 ⟨391, 0, 0, none⟩

theorem witness_SetTargetsWritesAndClampsTrims :
    Waits (asked .setTargets targetsPayload trimmed) .setTargets (request .setTargets targetsPayload) []
      ∧ (look trimmed.jobs 0).inRole .armed = false ∧ trimmed.runningSlot = some 0 ∧ (trimmed.trimOf 3 0).trim = 391
      ∧ trimmed.targetOf 3 0 = some ⟨141, 9, 9⟩ ∧ (trimmed.pass 3).state = .none
      ∧ (press .ready record3).isRunning 0 = false := ⟨waits_asked _ _ _ (by decide), by decide +kernel⟩

/-- A Load Zone Map payload for tower 3 of slot 0. -/
def mapPayload (zones edge width : Nat) : List Byte :=
  byte1 0 ++ byte1 3 ++ byte1 zones ++ byte2 edge ++ byte2 width

/-- The record of tower 3 with its strip OPEN. -/
def openRecord : TowerSettings := { record3 with strip := .opened, coverage := none }

/-- A press whose tower 3 has a strip OPEN of three columns. -/
def stripPress (role : Role) : State := (press role openRecord).setBuffers
  (put (Vector.replicate 4 none) 0 (some (.fresh 0 3 3 .ascending 8)))

theorem witness_LoadZoneMapReplacesTheMap :
    Waits (asked .loadZoneMap (mapPayload 8 0 4096) (press .ready record3)) .loadZoneMap
        (request .loadZoneMap (mapPayload 8 0 4096)) []
      ∧ (0 + 8 * 4096 ≤ 32768 ∧ ¬ 1 + 8 * 4096 ≤ 32768) ∧ ((press .ready record3).record 0 3).strip ≠ .opened
      ∧ ((stripPress .loading).record 0 3).strip = .opened ∧ (look (press .running record3).jobs 0).inRole .running = true
      ∧ (look armedPress.jobs 0).inRole .armed = true := ⟨waits_asked _ _ _ (by decide), by decide +kernel⟩

theorem witness_SetOffsetsWritesClampedOffsets :
    let p : List Byte := byte1 0 ++ byte1 3 ++ byte1 7 ++ byte1 1 ++ byte2 620
    Waits (asked .setOffsets p trimmed) .setOffsets (request .setOffsets p) [] ∧ (7 : Nat) + 1 ≤ 8 ∧ 8 < (8 : Nat) + 1
      ∧ (trimmed.record 0 3).zoneMap = some ⟨8, 0, 40⟩ ∧ (trimmed.record 0 2).zoneMap = none ∧ trimmed.runningSlot = some 0
      ∧ (press .ready record3).isRunning 0 = false := ⟨waits_asked _ _ _ (by decide), by decide +kernel⟩

theorem witness_ClearJobEmptiesAPreparedSlot :
    Waits (asked .clearJob [0] (stripPress .loading)) .clearJob (request .clearJob [0]) []
      ∧ look (stripPress .loading).jobs 0 = .held .loading (jobOf openRecord)
      ∧ (look (stripPress .loading).buffers 0).map Buffer.slot = some 0 ∧ look (stripPress .loading).jobs 1 = .empty
      ∧ 2 ≤ (2 : Byte).toNat := ⟨waits_asked _ _ _ (by decide), by decide +kernel⟩

/-- A press with every buffer bound. -/
def buffersFull : State := (press .ready record3).setBuffers (Vector.replicate 4 (some (.fresh 1 0 1 .ascending 8)))

theorem witness_StripOpenBindsOrRestartsABuffer :
    let p : List Byte := byte1 0 ++ byte1 3 ++ byte2 2048 ++ byte1 1
    Waits (asked .stripOpen p (press .ready record3)) .stripOpen (request .stripOpen p) []
      ∧ ((press .ready record3).record 0 3).zoneMap = some ⟨8, 0, 40⟩ ∧ look (press .ready record3).buffers 0 = none
      ∧ (∀ i, look buffersFull.buffers i ≠ none) ∧ (buffersFull.record 0 3).strip ≠ .opened
      ∧ ((stripPress .loading).record 0 3).strip = .opened
      ∧ (look (stripPress .loading).buffers 0).map (fun b => (b.slot, b.tower)) = some (0, 3)
      ∧ ((press .ready record3).record 0 2).zoneMap = none := ⟨waits_asked _ _ _ (by decide), by decide +kernel⟩

theorem witness_StripSegmentIsTakenValueByValue :
    let p : List Byte := byte1 0 ++ byte1 3 ++ byte2 2 ++ byte1 2 ++ [1000, 1200].flatMap byte2
    Waits (asked .stripSegment p (stripPress .running)) .stripSegment (request .stripSegment p) []
      ∧ (stripPress .running).bufferOf 0 3 = some (0, .fresh 0 3 3 .ascending 8)
      ∧ ((stripPress .running).record 0 3).strip = .opened ∧ ((press .ready record3).record 0 3).strip ≠ .opened
      ∧ ¬ (1 ≤ ([] : List Nat).length) ∧ ¬ ((List.replicate 97 (0 : Nat)).length ≤ 96) :=
  ⟨waits_asked _ _ _ (by decide), by decide +kernel⟩

theorem witness_ColumnValuesAreIntegratedByOverlap :
    let b : Buffer := takeColumn ⟨8, 0, 40⟩ (.fresh 0 3 3 .ascending 8) 2 1001
    b.received.length = b.length ∧ b.length ≤ 3 ∧ 2 < b.length ∧ b.received.getD 2 false = true
      ∧ b.received.getD 0 false = false := by decide +kernel

theorem witness_StripCloseMakesTheCoverageArray :
    Waits (asked .stripClose [0, 3] (stripPress .running)) .stripClose (request .stripClose [0, 3]) []
      ∧ [0, 3] = byte1 (0 : SlotIdx).val ++ byte1 (3 : TowerIdx).val
      ∧ (stripPress .running).bufferOf 0 3 = some (0, .fresh 0 3 3 .ascending 8)
      ∧ (stripPress .running).runningSlot = some 0 ∧ ((stripPress .running).record 0 3).enabled = true
      ∧ (stripPress .loading).isRunning 0 = false := ⟨waits_asked _ _ _ (by decide), by decide +kernel⟩

theorem witness_ZoneComputationWritesTheZone :
    ((passAt 6 false).pass 3).state = .active ∧ ((passAt 6 false).pass 3).cursor = (6 : ZoneIdx).val ∧ (6 : ZoneIdx).val + 1 < 8
      ∧ ((passAt 6 false).tower 3) = record3
      ∧ (curveEvaluation lib .key 5 (effectiveCoverage 32 [121, 281, 560, 960, 9, 60, 360, 0] 6)).isSome = true := by
  decide +kernel

theorem witness_LastZoneCompletesThePass :
    ((passAt 7 true).pass 3).state = .active ∧ ((passAt 7 true).pass 3).cursor = (7 : ZoneIdx).val
      ∧ ((passAt 7 true).pass 3).mean = some 294 ∧ (passAt 7 true).tower 3 = record3
      ∧ curveEvaluation lib .key 5 45 = some 296 ∧ curveEvaluation lib .sweep 12 294 = some 453 ∧ (453 : Nat) ≤ 1000
      ∧ look (passAt 7 true).running.ready 3 = true ∧ ((passAt 7 false).pass 3).rerun = false := by decide +kernel

/-- A zone in each motion state, within and beyond the deadband; a watched tower whose one PENDING zone comes to rest. -/
theorem witness_KeyTargetHandedOnByState :
    ((zoneIn .pending (some 9) 9 none).zone 3 0).actual = some 9 ∧ ((zoneIn .noTarget none 9 none).zone 3 0).actual = none
      ∧ ((zoneIn .faulted none 9 none).zone 3 0).state = .faulted
      ∧ ((driving (.move 3 0 9 41)).zone 3 0).state = .moving ∧ ((driving (.move 3 0 9 41)).zone 3 0).commanded = some 9
      ∧ DriveEntry.move 3 0 9 41 ∈ (driving (.move 3 0 9 41)).motion.queue
      ∧ (record3.movePhases.has free.cycle.phase = true) ∧ record3.movePhases.has .wash = false
      ∧ look (watchedZone .pending (some 9) 9 none).motion.watch 3 = true
      ∧ ((handTarget 3 0 9 (watchedZone .pending (some 9) 9 none)).zone 3 0).state = .atTarget := by decide +kernel

theorem witness_DispatchScanServesTowersInTurn :
    (scanStep (zoneIn .pending none 9 none)).isSome = true ∧ (zoneIn .pending none 9 none).eligible 3 = true
      ∧ (zoneIn .pending none 9 none).motion.pressInFlight < (zoneIn .pending none 9 none).motion.cap
      ∧ (scanStep (zoneIn .atTarget none 9 none)).isNone = true
      ∧ ((zoneIn .pending none 9 none).zone 3 0).state = .pending ∧ ((zoneIn .atTarget none 9 none).zone 3 0).state ≠ .pending := by
  decide +kernel

theorem witness_SetMotionLimitsReplacesTheLimits :
    let p : List Byte := byte1 32 ++ byte1 255 ++ allTowers.flatMap fun _ => byte1 8
    Waits (asked .setMotionLimits p (press .running record3)) .setMotionLimits (request .setMotionLimits p) []
      ∧ (press .running record3).motion.restricted = false
      ∧ (1 : Nat) < (allTowers.map fun u => if ((press .running record3).tower u).enabled then 8 else 0).sum :=
  ⟨waits_asked _ _ _ (by decide), by decide +kernel⟩

/-- A tower with its Settle Watch clear, and one watched with another zone in MOVING. -/
theorem witness_ClearKeyFaultClearsFaultedZones :
    Waits (asked .clearKeyFault [3, 0xFF] (zoneIn .faulted none 9 none)) .clearKeyFault (request .clearKeyFault [3, 0xFF]) []
      ∧ ((zoneIn .faulted none 9 none).zone 3 0).state = .faulted ∧ ((zoneIn .faulted none 9 none).zone 3 47).state ≠ .faulted
      ∧ ((zoneIn .faulted none 9 none).putTarget 3 0 none).targetOf 3 0 = none ∧ 48 ≤ (48 : Byte).toNat
      ∧ look (zoneIn .faulted none 9 none).motion.watch 3 = false
      ∧ (((watchedZone .faulted none 9 none).putZone 3 1 ⟨.moving, none, some 9, 0, none, 0⟩).zone 3 1).state = .moving :=
  ⟨waits_asked _ _ _ (by decide), by decide +kernel⟩

/-- A MOVE queued and one sent, and a watched tower whose last zone in motion ends it, and one with another still moving. -/
theorem witness_KeyReportsRecordAndEndMoves :
    let s := zoneIn .retry none 9 (some 9)
    s.link.resetHeld = false ∧ (⟨0x30, 0x13, 0x48, [0, 41, 0, 9, 1]⟩ : Frame).src.toNat = 0x10 + (3 : TowerIdx).val
      ∧ (s.zone 3 0).state = .retry ∧ (s.zone 3 0).tag = 41
      ∧ (s.motion.queue.any fun e => e.isMoveOf 3 0) = false ∧ s.targetOf 3 0 = some ⟨141, 9, 9⟩
      ∧ (driving (.move 3 0 9 41)).moveQueued 3 0 = true ∧ 48 ≤ (48 : Byte).toNat
      ∧ look (watchedZone .moving none 9 (some 9)).motion.watch 3 = true ∧ arrival.src.toNat = 0x10 + (3 : TowerIdx).val
      ∧ (∀ x, x ≠ 0 → ((watchedZone .moving none 9 (some 9)).zone 3 x).state = .noTarget)
      ∧ (((watchedZone .moving none 9 (some 9)).putZone 3 1 ⟨.retry, none, some 9, 0, none, 0⟩).zone 3 1).state = .retry := by
  decide +kernel

/-- A first and a second timeout, the second also in a watched tower with no other zone in motion. -/
theorem witness_MoveTimeoutRetriesThenFaults :
    let s := fun m => (zoneIn m none 9 (some 9)).putZone 3 0 ⟨m, none, some 9, 7, some 1500, 0⟩
    ((s .moving).zone 3 0).timer = some 1500 ∧ ((s .moving).zone 3 0).commanded = some 9 ∧ ((s .retry).zone 3 0).state = .retry
      ∧ (free.zone 3 0).timer = none ∧ look (watchedZone .retry none 9 (some 9)).motion.watch 3 = true
      ∧ (∀ x, x ≠ 0 → ((watchedZone .retry none 9 (some 9)).zone 3 x).state = .noTarget) := by decide +kernel

/-- A rising and a falling edge, a vertical edge and a shoulder. -/
theorem witness_TrimStepFollowsTheBands :
    let u := Trim.reset
    (99 < u.medium.peak ∧ 0 < u.medium.left ∧ u.medium.peak ≤ 20 + u.medium.left ∧ 19 + u.medium.left < u.medium.peak)
      ∧ (u.medium.peak < 220 ∧ 220 ≤ u.medium.peak + u.medium.right ∧ u.medium.peak + u.medium.right < 221)
      ∧ (u.large.peak < 251 ∧ u.large.right = 0) ∧ u.small.membership 0 ≠ 0
      ∧ ({ u with large := ⟨250, 120, 200, 30⟩ }.weight 500 = 0) := by decide +kernel

/-- The running press with zone 0 of tower 3 AT_TARGET in PRINT, one reading counted of an average of 2. -/
def measured (n : Nat) : State :=
  ((zoneIn .atTarget (some 9) 9 none).setJobs
      (put (Vector.replicate 2 .empty) 0 (.held .running (jobOf { record3 with avgCount := n })))).putTrim 3 0 ⟨10, 1400, 1, none⟩
    |>.setCycle { State.reset.cycle with phase := .print }

theorem witness_ReadingsAreSkippedDiscardedOrCounted :
    discards 3 0 0 (measured 2) = false ∧ ((measured 2).trimOf 3 0).count + 1 = ((measured 2).tower 3).avgCount
      ∧ ((measured 3).trimOf 3 0).count + 1 < ((measured 3).tower 3).avgCount
      ∧ ((measured 2).tower 3).trimPhases.has .idle = false := by decide +kernel

/-- The measured press with every tower armed. -/
def armedMeasured : State := (measured 2).setTrim { (measured 2).trim with armed := Vector.replicate 12 true }

/-- Averages at the window's edge and beyond it, for an armed and a disarmed tower. -/
theorem witness_AverageOutOfWindowMovesTheTrim :
    let r := armedMeasured.tower 3
    (-(r.tolLow : Int) ≤ (1450 : Int) - r.target ∧ (1450 : Int) - r.target ≤ r.tolHigh)
      ∧ ¬ ((1451 : Int) - r.target ≤ r.tolHigh) ∧ look armedMeasured.trim.armed 3 = true
      ∧ look (measured 2).trim.armed 3 = false ∧ armedMeasured.trim.stepAt 51 = some 8
      ∧ { armedMeasured.trim with large := ⟨250, 120, 200, 30⟩ }.stepAt 500 = none
      ∧ { armedMeasured.trim with large := ⟨250, 120, 0, 0⟩ }.stepAt 500 = some 0
      ∧ armedMeasured.targetOf 3 0 = some ⟨141, 9, 9⟩ ∧ (armedMeasured.pass 3).state = .none := by decide +kernel

/-- A frame for the last zone a tower can have, and one beyond it. -/
theorem witness_DensityFramesAreTakenReadingByReading :
    let f : Frame := ⟨0, 0, 0x50, [3, 47, 1] ++ [1400].flatMap byte2⟩
    (free.setLink { free.link with mReceive := [(f, 7)] }).link.mReceive = [(f, 7)] ∧ free.link.mReceive = []
      ∧ (3 : Byte).toNat = (3 : TowerIdx).val ∧ (47 : Byte).toNat + (1 : Byte).toNat ≤ 48
      ∧ 48 < (47 : Byte).toNat + (2 : Byte).toNat ∧ ([] : List Byte).length < 3 := by decide +kernel

theorem witness_ArmTrimAndTrimBandsAreWritten :
    Waits (asked .armTrim [0xFF, 1] free) .armTrim (request .armTrim [0xFF, 1]) []
      ∧ ¬ ((12 : Byte).toNat < 12) ∧ ¬ ((2 : Byte).toNat ≤ 1)
      ∧ (∀ w ∈ [(⟨3000, 0, 3000, 255⟩ : Band)], w.peak ≤ 3000 ∧ w.left ≤ 3000 ∧ w.right ≤ 3000)
      ∧ ¬ (⟨3001, 0, 0, 0⟩ : Band).peak ≤ 3000
      ∧ Waits (asked .loadTrimBands (List.replicate 21 0) free) .loadTrimBands
          (request .loadTrimBands (List.replicate 21 0)) [] :=
  ⟨waits_asked _ _ _ (by decide), by decide, by decide, by decide, by decide, waits_asked _ _ _ (by decide)⟩

theorem witness_ClearTrimClearsTheNamedTowers :
    Waits (asked .clearTrim [3] trimmed) .clearTrim (request .clearTrim [3]) [] ∧ (trimmed.trimOf 3 0).trim ≠ 0
      ∧ (trimmed.trimOf 3 1).trim = 0 ∧ trimmed.targetOf 3 0 = some ⟨141, 9, 9⟩ ∧ (trimmed.pass 3).state = .none
      ∧ (12 ≤ (12 : Byte).toNat ∧ (12 : Byte) ≠ 0xFF) := ⟨waits_asked _ _ _ (by decide), by decide +kernel⟩

theorem witness_SheetMarksAndPhasesTakeArmedChangeovers :
    Waits (asked .pressPhase [0] armedPress) .pressPhase (request .pressPhase [0]) []
      ∧ armedPress.link.resetHeld = false ∧ armedPress.cycle.armed = some ⟨0, true⟩ ∧ armedPress.cycle.phase = .print
      ∧ free.cycle.armed = none ∧ (3 : Byte).toNat = Phase.num .wash ∧ 4 ≤ (4 : Byte).toNat :=
  ⟨waits_asked _ _ _ (by decide), by decide +kernel⟩

theorem witness_ChangeoverArmsAndCancelDisarms :
    Waits (asked .changeover [0, 1] (press .ready record3)) .changeover (request .changeover [0, 1]) []
      ∧ look (press .ready record3).jobs 0 = .held .ready (jobOf record3) ∧ (press .ready record3).cycle.armed = none
      ∧ (press .ready record3).cycle.phase = .idle ∧ (look (press .running record3).jobs 0).inRole .running = true
      ∧ (look (press .ready record3).jobs 1).inRole .ready = false ∧ armedPress.cycle.armed = some ⟨0, true⟩
      ∧ Waits (asked .cancelChangeover [] armedPress) .cancelChangeover (request .cancelChangeover []) [] :=
  ⟨waits_asked _ _ _ (by decide), by decide +kernel, by decide +kernel, by decide +kernel, by decide +kernel,
    by decide +kernel, by decide +kernel, waits_asked _ _ _ (by decide)⟩

/-- The armed press with zone 0 of tower 2, which the armed job disables, PENDING and its Settle Watch set. -/
def watched : State :=
  let s := (armedPress.putTarget 2 0 (some ⟨141, 9, 9⟩)).putZone 2 0 ⟨.pending, none, none, 41, none, 0⟩
  s.setMotion { s.motion with watch := put s.motion.watch 2 true }

set_option maxRecDepth 20000 in
/-- R128, R75, R96: the watches are cleared at step 4, so the zone that leaves PENDING at step 3 raises SETTLED. -/
theorem test_changeoverRaisesSettled :
    (look (takeChangeover ⟨0, true⟩ watched).notice.records 7).map (fun r => (r.count, r.detail)) = some (1, .tower 2) := by
  decide +kernel

/-- The armed job has a place for zone 7 of tower 3 and none for zone 8 or for tower 2. -/
theorem witness_TakingAChangeoverExchangesTheJobs :
    look watched.jobs 0 = .held .armed (jobOf record3) ∧ look watched.motion.watch 2 = true
      ∧ record3.keyMax < (⟨141, 9, 4096⟩ : Target).k ∧ (watched.zone 2 0).state = .pending ∧ (watched.zone 2 1).state = .noTarget
      ∧ look armedPress.jobs 0 = .held .armed (jobOf record3) ∧ (look (jobOf record3).towers 3).enabled = true
      ∧ (look (jobOf record3).towers 3).zoneMap = some ⟨8, 0, 40⟩ ∧ (7 : ZoneIdx).val < 8 ∧ ¬ (8 : ZoneIdx).val < 8
      ∧ (look (jobOf record3).towers 2).enabled = false := by decide +kernel

theorem witness_OccurrencesMergeIntoOneRecord :
    look noticed.notice.records 0 ≠ none ∧ look noticed.notice.records 1 = none := by decide +kernel

theorem witness_NoticeControlsAndRecordsAreWritten :
    let p : List Byte := [1, 5, 1, 5, 1, 5, 1, 5, 0x81, 1]
    Waits (asked .setNoticeControl p noticed) .setNoticeControl (request .setNoticeControl p) []
      ∧ ¬ ((2 : Byte).toNat ≤ 1)
      ∧ Waits (asked .clearPending [7] noticed) .clearPending (request .clearPending [7]) []
      ∧ (look noticed.notice.records 7).isSome = true ∧ 8 ≤ (8 : Byte).toNat :=
  ⟨waits_asked _ _ _ (by decide), by decide, waits_asked _ _ _ (by decide), by decide +kernel⟩

theorem witness_BridgeResetKeepsWhatItNames :
    Waits (asked .bridgeReset [] armedPress) .bridgeReset (request .bridgeReset []) [] ∧ (request .bridgeReset []).payload = [] :=
  ⟨waits_asked _ _ _ (by decide), rfl⟩

theorem witness_PowerOnResetAndRelease : State.reset.link.resetHeld = true ∧ free.link.resetHeld = false := ⟨rfl, rfl⟩

/-- A press whose RUNNING job has a strip OPEN and whose zone 0 of tower 3 is MOVING, its MOVE and a SWEEP waiting, every bounded
field at its greatest value. -/
def running : State :=
  let s := (((stripPress .running).putTarget 3 0 (some ⟨141, 9, 4095⟩)).putZone 3 0 ⟨.moving, some 5, some 4095, 41, none, 0⟩).putTrim
    3 0 ⟨400, 0, 0, none⟩
  s.setMotion { s.motion with
    queue := [.move 3 0 4095 41, .sweep 3 1000], inFlight := put s.motion.inFlight 3 1, pressInFlight := 1 }

theorem witness_EveryStepKeepsCurvesAndQueues :
    CurvesValid running ∧ QueuesWithinCapacity running ∧ step running = .next (tick running) := by
  refine ⟨fun c cv h => ?_, by unfold QueuesWithinCapacity; decide, rfl⟩
  have all : ∀ c, ((look running.library c).all Curve.valid) = true := by decide +kernel
  have := all c
  simpa [h] using this

theorem witness_EveryStepKeepsJobRolesAndBounds :
    JobRolesConsistent running ∧ TargetsWithinMaximum running ∧ TrimsWithinLimit running
      ∧ running.runningSlot = some 0 ∧ step running = .next (tick running) := by
  refine ⟨by unfold JobRolesConsistent; decide +kernel, fun t z g h => ?_, fun t z => ⟨?_, fun h => ?_⟩, by decide +kernel, rfl⟩
  · have all : ∀ t z, ((running.targetOf t z).all fun g => decide (g.k ≤ (running.tower t).keyMax)) = true := by decide +kernel
    have := all t z
    simpa [h] using this
  · have all : ∀ t z, |(running.trimOf t z).trim| ≤ ((running.tower t).trimLimit : Int) := by decide +kernel
    exact all t z
  · have map : (running.tower 3).zoneMap = some ⟨8, 0, 40⟩ := by decide +kernel
    have all : ∀ t z, (running.trimOf t z).trim = 0 ∨ (t = 3 ∧ z = 0) := by decide +kernel
    obtain h0 | ⟨rfl, rfl⟩ := all t z
    · exact h0
    · obtain h | h | h := h
      · exact absurd h (by decide +kernel)
      · exact absurd h (by decide +kernel)
      · exact absurd (h _ map) (by decide)

theorem witness_EveryStepKeepsMotionCountsAndDriveQueue :
    MotionConsistent running ∧ CountsExact running ∧ DriveQueueConsistent running ∧ step running = .next (tick running) := by
  have queue : running.motion.queue = [.move 3 0 4095 41, .sweep 3 1000] := rfl
  refine ⟨by unfold MotionConsistent; decide +kernel, by unfold CountsExact; decide +kernel,
    ⟨by decide +kernel, fun t z g tag h => ?_, by decide +kernel, fun t v h => ?_, by decide +kernel⟩, rfl⟩
  · simp only [queue, List.mem_cons, List.not_mem_nil, reduceCtorEq, or_false, DriveEntry.move.injEq] at h
    obtain ⟨rfl, rfl, rfl, rfl⟩ := h
    decide +kernel
  · simp only [queue, List.mem_cons, List.not_mem_nil, reduceCtorEq, false_or, or_false, DriveEntry.sweep.injEq] at h
    omega

theorem witness_EveryStepKeepsStripsConsistent : StripsConsistent running ∧ step running = .next (tick running) := by
  have bound : ∀ i, look running.buffers i = if i = 0 then some (.fresh 0 3 3 .ascending 8) else none := by decide +kernel
  have buffer : ∀ i b, look running.buffers i = some b → i = 0 ∧ b = .fresh 0 3 3 .ascending 8 := by
    intro i b h
    rw [bound] at h
    split at h
    · next hi => exact ⟨hi, by simpa using h.symm⟩
    · cases h
  have opened : ∀ j u, (running.record j u).strip = .opened → j = 0 ∧ u = 3 := by decide +kernel
  have bare : ∀ j u, (running.record j u).coverage = none := by decide +kernel
  have map : ∀ j u, (running.record j u).zoneMap = if j = 0 ∧ u = 3 then some ⟨8, 0, 40⟩ else none := by decide +kernel
  refine ⟨⟨fun i b h => ?_, fun j u h => ?_, fun i k b c hb hc _ _ => ?_, fun j u c h => ?_, fun j u m h => ?_⟩, rfl⟩
  · obtain ⟨rfl, rfl⟩ := buffer i b h
    refine ⟨⟨8, 0, 40⟩, by decide +kernel, by decide +kernel, by decide +kernel, by decide +kernel, by decide +kernel,
      by decide +kernel, by decide +kernel, by decide +kernel⟩
  · obtain ⟨rfl, rfl⟩ := opened j u h
    exact ⟨0, _, bound 0, rfl, rfl⟩
  · exact (buffer i b hb).1.trans (buffer k c hc).1.symm
  · rw [bare] at h
    cases h
  · rw [map] at h
    split at h
    · cases h
      decide
    · cases h

end Sys2Proof.Tests
end

section
/-! SUPPORT. Rounding to nearest: its error, its ties, and the range it stays in (00_scope.md, Rounding). -/

namespace Sys2Proof.Machine

/-- Half up as a bracket: `halfUp a b` is the greatest `h` with `(2h - 1) b ≤ 2a`. -/
theorem halfUp_bracket (a : Nat) {b : Nat} (hb : 0 < b) :
    2 * (halfUp a b * b) ≤ 2 * a + b ∧ 2 * a + b < 2 * (halfUp a b * b) + 2 * b := by
  have lower : 2 * b * halfUp a b ≤ 2 * a + b := Nat.mul_div_le _ _
  have upper : 2 * a + b < 2 * b * (halfUp a b + 1) := Nat.lt_mul_div_succ _ (by omega)
  constructor <;> linarith only [lower, upper]

/-- A quotient of at most `d` rounds to at most `d`. -/
theorem halfUp_le {a b d : Nat} (hb : 0 < b) (h : a ≤ d * b) : halfUp a b ≤ d :=
  Nat.le_of_lt_succ (Nat.div_lt_of_lt_mul (by linarith only [h, hb]))

theorem roundNearest_natCast (a b : Nat) : roundNearest a b = halfUp a b := by simp [roundNearest]

/-- Rounding to nearest with ties away from zero is odd. -/
theorem roundNearest_neg (a : Int) (b : Nat) : roundNearest (-a) b = -roundNearest a b := by
  obtain h | rfl | h := lt_trichotomy a 0
  · simp [roundNearest, h, h.le]
  · have zero : halfUp 0 b = 0 := Nat.div_eq_zero_iff.2 (by omega)
    simp [roundNearest, zero]
  · simp [roundNearest, h, h.le]

/-- The rounded quotient is within half of the exact one, and on a tie it is the one farther from zero. -/
theorem roundNearest_nearest (a : Int) {b : Nat} (hb : 0 < b) :
    2 * |a - roundNearest a b * b| ≤ b
      ∧ (2 * |a - roundNearest a b * b| = b → |a| ≤ |roundNearest a b * b|) := by
  have nonneg (n : Nat) : 2 * |(n : Int) - roundNearest n b * b| ≤ b
      ∧ (2 * |(n : Int) - roundNearest n b * b| = b → |(n : Int)| ≤ |roundNearest n b * b|) := by
    obtain ⟨lower, upper⟩ := halfUp_bracket n hb
    rw [roundNearest_natCast, ← Nat.cast_mul, Nat.abs_cast, Nat.abs_cast]
    obtain ⟨size, -⟩ | ⟨size, -⟩ := abs_cases ((n : Int) - ((halfUp n b * b : Nat) : Int)) <;> omega
  obtain ⟨n, rfl | rfl⟩ := a.eq_nat_or_neg
  · exact nonneg n
  · have flip : -(n : Int) - roundNearest (-n) b * b = -(n - roundNearest n b * b) := by rw [roundNearest_neg]; ring
    rw [flip, roundNearest_neg, neg_mul, abs_neg, abs_neg, abs_neg]
    exact nonneg n

/-- A fraction `k / b` of a whole difference `d`, rounded to nearest, lies between 0 and `d`. -/
theorem roundNearest_between (d : Int) {k b : Nat} (hb : 0 < b) (hk : k ≤ b) :
    min 0 d ≤ roundNearest (d * k) b ∧ roundNearest (d * k) b ≤ max 0 d := by
  have nonneg (n : Nat) : 0 ≤ roundNearest (n * k) b ∧ roundNearest (n * k) b ≤ n := by
    have := halfUp_le hb (Nat.mul_le_mul_left n hk)
    rw [← Nat.cast_mul, roundNearest_natCast]
    omega
  obtain ⟨n, rfl | rfl⟩ := d.eq_nat_or_neg
  · have := nonneg n
    omega
  · have := nonneg n
    rw [neg_mul, roundNearest_neg]
    omega

end Sys2Proof.Machine
end

section
/-! SUPPORT. Curve Evaluation: the value of one segment, the segment in which an argument lies, and what a valid curve's vertices
are (R2, R9, R10). -/

namespace Sys2Proof.Machine

/-! ### One segment (R10) -/

/-- Over its own segment the interpolated value needs no truncation at 0. -/
theorem interpolate_eq {x0 x1 x : Nat} (y0 y1 : Nat) (h0 : x0 ≤ x) (h1 : x < x1) :
    (interpolate x0 y0 x1 y1 x : Int)
      = y0 + roundNearest (((y1 : Int) - y0) * ((x - x0 : Nat) : Int)) (x1 - x0) := by
  have := roundNearest_between ((y1 : Int) - y0) (k := x - x0) (b := x1 - x0) (by omega) (by omega)
  exact Int.toNat_of_nonneg (by omega)

/-- The interpolated value lies between the y of the segment's two vertices. -/
theorem interpolate_between {x0 x1 x : Nat} (y0 y1 : Nat) (h0 : x0 ≤ x) (h1 : x < x1) :
    min y0 y1 ≤ interpolate x0 y0 x1 y1 x ∧ interpolate x0 y0 x1 y1 x ≤ max y0 y1 := by
  have range := roundNearest_between ((y1 : Int) - y0) (k := x - x0) (b := x1 - x0) (by omega) (by omega)
  have value := interpolate_eq y0 y1 h0 h1
  omega

/-- What the interpolated value adds to y0 is the exact quotient rounded to nearest, a tie away from zero. -/
theorem interpolate_nearest {x0 x1 x : Nat} (y0 y1 : Nat) (h0 : x0 ≤ x) (h1 : x < x1) :
    let num : Int := ((y1 : Int) - y0) * ((x : Int) - x0)
    let den : Int := (x1 : Int) - x0
    let q : Int := (interpolate x0 y0 x1 y1 x : Int) - y0
    2 * |num - q * den| ≤ den ∧ (2 * |num - q * den| = den → |num| ≤ |q * den|) := by
  intro num den q
  have hnum : num = ((y1 : Int) - y0) * ((x - x0 : Nat) : Int) := by rw [Nat.cast_sub h0]
  have hden : den = ((x1 - x0 : Nat) : Int) := (Nat.cast_sub (h0.trans h1.le)).symm
  have hq : q = roundNearest num (x1 - x0) := by
    rw [hnum]
    exact sub_eq_of_eq_add' (interpolate_eq y0 y1 h0 h1)
  rw [hq, hden]
  exact roundNearest_nearest num (by omega)

/-! ### The segment of an argument (R9) -/

/-- Where the vertices ascend, the segment closed at its left vertex and open at its right that holds `x` gives the value. -/
theorem evalSegments_of_segment {before after : List (Nat × Nat)} {v w : Nat × Nat} {x : Nat}
    (ascending : (before ++ v :: w :: after).Pairwise fun a b => a.1 < b.1) (hv : v.1 ≤ x) (hw : x < w.1) :
    evalSegments (before ++ v :: w :: after) x = some (interpolate v.1 v.2 w.1 w.2 x) := by
  induction before with
  | nil => simp [evalSegments, hv, hw]
  | cons u before ih =>
    have skip : evalSegments (u :: (before ++ v :: w :: after)) x = evalSegments (before ++ v :: w :: after) x := by
      cases before with
      | nil => simp [evalSegments, hv.not_gt]
      | cons p before =>
        have hp : p.1 < v.1 := (List.pairwise_cons.1 (List.pairwise_cons.1 ascending).2).1 v (by simp)
        simp [evalSegments, (hp.le.trans hv).not_gt]
    exact skip.trans (ih (List.pairwise_cons.1 ascending).2)

/-- An argument from the first vertex's x to below the last's lies in a segment. -/
theorem exists_segment {x : Nat} (v : Nat × Nat) (rest : List (Nat × Nat)) (hv : v.1 ≤ x)
    (hlast : x < ((v :: rest).getLast (List.cons_ne_nil v rest)).1) :
    ∃ before a b after, v :: rest = before ++ a :: b :: after ∧ a.1 ≤ x ∧ x < b.1 := by
  induction rest generalizing v with
  | nil => exact absurd hv hlast.not_ge
  | cons w rest ih =>
    by_cases hw : x < w.1
    · exact ⟨[], v, w, rest, rfl, hv, hw⟩
    · obtain ⟨before, a, b, after, hl, ha, hb⟩ := ih w (Nat.le_of_not_lt hw) (by simpa using hlast)
      exact ⟨v :: before, a, b, after, by rw [hl]; rfl, ha, hb⟩

/-! ### Valid curves (R2) -/

theorem strictlyAscending_iff (l : List Nat) : strictlyAscending l = true ↔ l.Pairwise (· < ·) := by
  rw [← List.isChain_iff_pairwise]
  induction l with
  | nil => simp [strictlyAscending]
  | cons a rest ih =>
    cases rest with
    | nil => simp [strictlyAscending]
    | cons b rest => rw [List.isChain_cons_cons, ← ih]; simp [strictlyAscending]

/-- The vertices of a valid curve: the first at coverage 0, the last at 1000, ascending, no y above the kind's greatest. -/
theorem Curve.vertices_of_valid {c : Curve} (h : c.valid = true) :
    (∃ y rest, c.vertices = (0, y) :: rest) ∧ (∃ init y, c.vertices = init ++ [(1000, y)])
      ∧ c.vertices.Pairwise (fun a b => a.1 < b.1) ∧ ∀ v ∈ c.vertices, v.2 ≤ c.kind.yMax := by
  simp only [Curve.valid, Bool.and_eq_true, beq_iff_eq, strictlyAscending_iff, List.pairwise_map, List.all_eq_true,
    decide_eq_true_eq, List.head?_map, List.getLast?_map, Option.map_eq_some_iff] at h
  obtain ⟨⟨⟨⟨-, ⟨_, y⟩, first, rfl⟩, ⟨_, z⟩, last, rfl⟩, ascending⟩, bounded⟩ := h
  obtain ⟨rest, hrest⟩ := List.head?_eq_some_iff.1 first
  obtain ⟨init, hinit⟩ := List.getLast?_eq_some_iff.1 last
  exact ⟨⟨y, rest, hrest⟩, ⟨init, z, hinit⟩, ascending, bounded⟩

/-- No vertex of a valid curve is beyond coverage 1000. -/
theorem Curve.fst_le_of_valid {c : Curve} (h : c.valid = true) {v : Nat × Nat} (hv : v ∈ c.vertices) : v.1 ≤ 1000 := by
  obtain ⟨-, ⟨init, y, hinit⟩, ascending, -⟩ := Curve.vertices_of_valid h
  rw [hinit] at hv ascending
  obtain hv | hv := List.mem_append.1 hv
  · exact ((List.pairwise_append.1 ascending).2.2 v hv _ (List.mem_singleton_self _)).le
  · rw [List.mem_singleton.1 hv]

theorem Curve.eval_last (c : Curve) {v : Nat × Nat} (h : c.vertices.getLast? = some v) : c.eval 1000 = some v.2 := by
  simp [Curve.eval, h]

/-- A valid curve's value in a segment is that segment's interpolated value. -/
theorem Curve.eval_of_segment {c : Curve} (h : c.valid = true) {before after : List (Nat × Nat)} {v w : Nat × Nat} {x : Nat}
    (hc : c.vertices = before ++ v :: w :: after) (hv : v.1 ≤ x) (hw : x < w.1) :
    c.eval x = some (interpolate v.1 v.2 w.1 w.2 x) := by
  obtain ⟨-, -, ascending, -⟩ := Curve.vertices_of_valid h
  have hx : x ≠ 1000 := (hw.trans_le (Curve.fst_le_of_valid h (by simp [hc]))).ne
  rw [Curve.eval, if_neg hx, hc]
  exact evalSegments_of_segment (hc ▸ ascending) hv hw

/-- A valid curve has a value, within the range of its kind, at every coverage 0 to 1000. -/
theorem Curve.exists_eval_of_valid {c : Curve} (h : c.valid = true) {x : Nat} (hx : x ≤ 1000) :
    ∃ y, c.eval x = some y ∧ y ≤ c.kind.yMax := by
  obtain ⟨⟨y0, rest, hfirst⟩, ⟨init, y1, hlast⟩, -, bounded⟩ := Curve.vertices_of_valid h
  obtain rfl | hx := hx.eq_or_lt
  · exact ⟨y1, c.eval_last (v := (1000, y1)) (by simp [hlast]), bounded (1000, y1) (by simp [hlast])⟩
  · have below : x < (((0, y0) :: rest).getLast (List.cons_ne_nil _ _)).1 := by
      simpa [← hfirst, hlast] using hx
    obtain ⟨before, v, w, after, hseg, hv, hw⟩ := exists_segment (0, y0) rest (Nat.zero_le x) below
    have hc := hfirst.trans hseg
    have hmax := (interpolate_between v.2 w.2 hv hw).2
    have hv2 := bounded v (by simp [hc])
    have hw2 := bounded w (by simp [hc])
    exact ⟨_, Curve.eval_of_segment h hc hv hw, hmax.trans (max_le hv2 hw2)⟩

/-! ### Curve Evaluation of a slot (R11) -/

theorem curveEvaluation_empty {lib : Library} {slot : CurveIdx} (h : look lib slot = none) (k : CurveKind) (x : Nat) :
    curveEvaluation lib k slot x = none := by
  simp [curveEvaluation, h]

theorem curveEvaluation_loaded {lib : Library} {slot : CurveIdx} {c : Curve} (h : look lib slot = some c) (k : CurveKind)
    (x : Nat) : curveEvaluation lib k slot x = if c.kind = k then c.eval x else none := by
  simp [curveEvaluation, h]

end Sys2Proof.Machine
end

section
/-! SUPPORT. A Library Change re-evaluates the readiness of the jobs that name the slot, in the terms of the statements (R6). -/

namespace Sys2Proof.Machine

@[simp] theorem changeLibrary_library (c : CurveIdx) (x : Option Curve) (s : State) :
    (changeLibrary c x s).library = put s.library c x := rfl

@[simp] theorem changeLibrary_job (c : CurveIdx) (x : Option Curve) (s : State) (j : SlotIdx) :
    look (changeLibrary c x s).jobs j = (look s.jobs j).afterLibraryChange (put s.library c x) c := by
  simp [changeLibrary]

/-- READY by R21, over all towers. -/
theorem Job.isReady_iff (job : Job) :
    job.isReady = true ↔ (∃ u, (look job.towers u).enabled = true)
      ∧ ∀ u, (look job.towers u).enabled = true → look job.ready u = true := by
  simp [Job.isReady, ← Bool.not_eq_true, imp_iff_not_or]

/-- The state of a slot being prepared is READY exactly where R21 says so. -/
theorem Job.preparedRole_spec (job : Job) :
    (((∃ u, (look job.towers u).enabled = true)
        ∧ ∀ u, (look job.towers u).enabled = true → look job.ready u = true) → job.preparedRole = .ready)
      ∧ (((∀ u, (look job.towers u).enabled = false)
        ∨ ∃ u, (look job.towers u).enabled = true ∧ look job.ready u = false) → job.preparedRole = .loading) := by
  unfold Job.preparedRole
  constructor
  · intro h
    rw [if_pos (job.isReady_iff.2 h)]
  · intro h
    rw [if_neg]
    intro ready
    obtain ⟨⟨u, hu⟩, all⟩ := job.isReady_iff.1 ready
    obtain none | ⟨u, hu, hr⟩ := h
    · simp [none u] at hu
    · simp [all u hu] at hr

/-- A slot has a tower that a Library Change of slot `c` re-evaluates. -/
theorem any_touched_iff (job : Job) (c : CurveIdx) :
    (allTowers.any fun u => (look job.towers u).touched c) = true
      ↔ ∃ u, (look job.towers u).enabled = true ∧ (look job.towers u).names c = true := by
  simp [TowerSettings.touched]

/-- A LOADING or READY slot with an enabled tower that names the slot is re-evaluated. -/
theorem afterLibraryChange_reevaluated {lib : Library} {c : CurveIdx} {role : Role} {job : Job}
    (hr : role = .loading ∨ role = .ready)
    (hu : ∃ u, (look job.towers u).enabled = true ∧ (look job.towers u).names c = true) :
    JobReevaluated lib c job (JobSlot.afterLibraryChange lib c (.held role job)) := by
  refine ⟨(job.reevaluate lib c).preparedRole, job.reevaluate lib c, ?_, rfl, rfl, fun u => ?_,
    (Job.preparedRole_spec (job.reevaluate lib c)).1, (Job.preparedRole_spec (job.reevaluate lib c)).2⟩
  · exact if_pos ⟨hr, (any_touched_iff job c).2 hu⟩
  · simp [Job.reevaluate, TowerSettings.touched]

/-- A slot that is EMPTY, ARMED or RUNNING, or has no enabled tower that names the slot, stays as it is. -/
theorem afterLibraryChange_unchanged {lib : Library} {c : CurveIdx} {x : JobSlot}
    (h : x = .empty ∨ (∃ job, x = .held .armed job) ∨ (∃ job, x = .held .running job)
      ∨ ∀ u, ¬ ((look x.job.towers u).enabled = true ∧ (look x.job.towers u).names c = true)) :
    x.afterLibraryChange lib c = x := by
  obtain rfl | ⟨job, rfl⟩ | ⟨job, rfl⟩ | untouched := h
  · rfl
  · rfl
  · rfl
  · cases x with
    | empty => rfl
    | held role job =>
      refine if_neg fun ⟨_, touched⟩ => ?_
      obtain ⟨u, hu⟩ := (any_touched_iff job c).1 touched
      exact untouched u hu

/-- Where a step leaves the library and the Job Slots of a Library Change, it has made that change. -/
theorem libraryChanged_of_changeLibrary {c : CurveIdx} {x : Option Curve} {s t : State}
    (library : t.library = (changeLibrary c x s).library) (jobs : t.jobs = (changeLibrary c x s).jobs) :
    LibraryChanged c s t := by
  intro j
  rw [library, jobs, changeLibrary_job]
  refine ⟨fun role job hj hr hu => ?_, afterLibraryChange_unchanged⟩
  rw [hj]
  exact afterLibraryChange_reevaluated hr hu

end Sys2Proof.Machine
end

section
/-! SUPPORT. Requests on curve slots: what a refused one and a Library Change leave, and the answers of Erase Curve case by case
(R4, R6, R7). -/

namespace Sys2Proof.Machine

theorem slotStates_congr {s t : State} (h : t.jobs = s.jobs) : t.slotStates = s.slotStates := by
  simp [State.slotStates, h]

/-- A request that its handler refuses leaves everything but the Link Controller as it was, and is answered with the code and
the fields of the refusal. -/
theorem takeRequest_refused {s : State} {k : RequestKind} {f : Frame} {rest : List Frame} (h : Waits s k f rest)
    {g : List Byte → State → Reply} {code : ResultCode} {fields : List Byte}
    (hg : g f.payload (s.taken rest) = ⟨s.taken rest, code, fields⟩) :
    Answered s f rest code.num fields (takeRequest k g s) ∧ OnlyChanges [.link] s (takeRequest k g s) := by
  obtain ⟨answered, frame, -⟩ := takeRequest_answered h g (bs := []) (by rw [hg]; exact .refl _ _) (by simp)
  rw [hg] at answered
  exact ⟨answered, frame⟩

/-- A request whose handler accepts it with a Library Change: the answer carries both slot states as they are after it (R7), the
slot holds what was written, every other slot is kept. -/
theorem takeRequest_changeLibrary {s : State} {k : RequestKind} {f : Frame} {rest : List Frame} (h : Waits s k f rest)
    {g : List Byte → State → Reply} {c : CurveIdx} {x : Option Curve} {front : List Byte}
    (hg : g f.payload (s.taken rest)
      = ⟨changeLibrary c x (s.taken rest), .ok, front ++ (changeLibrary c x (s.taken rest)).slotStates⟩) :
    Answered s f rest 0 (front ++ (takeRequest k g s).slotStates) (takeRequest k g s)
      ∧ OnlyChanges [.library, .jobs, .link] s (takeRequest k g s)
      ∧ look (takeRequest k g s).library c = x
      ∧ (∀ d, d ≠ c → look (takeRequest k g s).library d = look s.library d)
      ∧ LibraryChanged c s (takeRequest k g s) := by
  obtain ⟨answered, frame, after⟩ := takeRequest_answered h g (bs := [.library, .jobs])
    (by rw [hg]; exact changeLibrary_frame c x _) (by decide)
  rw [hg] at answered after
  have library : (takeRequest k g s).library = put s.library c x := after.library.trans (changeLibrary_library c x _)
  refine ⟨slotStates_congr after.jobs ▸ answered, frame.mono (by decide), ?_, fun d hd => ?_,
    libraryChanged_of_changeLibrary after.library after.jobs⟩
  · simp [library]
  · simp [library, hd.symm]

@[simp] theorem curveOf_val (c : CurveIdx) : curveOf c.val = some c := by simp [curveOf]

theorem curveOf_eq_none {n : Nat} (h : 32 ≤ n) : curveOf n = none := by simp [curveOf, h]

/-- The fields of R7 for a payload that is the slot number alone. -/
theorem curveFields_singleton (n : Byte) (s : State) : curveFields [n] s = [n] ++ s.slotStates := by
  simp [curveFields, u8, byte1]

theorem eraseCurve_out_of_range {p : List Byte} {n : Byte} (hp : p = [n]) (h : 32 ≤ n.toNat) (s : State) :
    eraseCurve p s = ⟨s, .range, [n] ++ s.slotStates⟩ := by
  subst hp
  simp [eraseCurve, curveFields_singleton, u8, curveOf_eq_none h]

theorem eraseCurve_inUse {p : List Byte} {n : Byte} {c : CurveIdx} {s : State} (hp : p = [n]) (hn : n.toNat = c.val)
    (h : s.inUse c = true) : eraseCurve p s = ⟨s, .inUse, [n] ++ s.slotStates⟩ := by
  subst hp
  simp [eraseCurve, curveFields_singleton, u8, hn, h]

theorem eraseCurve_erased {p : List Byte} {n : Byte} {c : CurveIdx} {s : State} (hp : p = [n]) (hn : n.toNat = c.val)
    (h : s.inUse c = false) :
    eraseCurve p s = ⟨changeLibrary c none s, .ok, [n] ++ (changeLibrary c none s).slotStates⟩ := by
  subst hp
  simp [eraseCurve, curveFields_singleton, u8, hn, h]

end Sys2Proof.Machine
end

section
/-! PROOF. Ink curves (chapter 1): Erase Curve and Curve Evaluation. -/

namespace Sys2Proof.Machine

/-- Settles O19: the handler's three cases, each taken through the step of the request. -/
theorem eraseCurveEmptiesTheSlot : Obligations.EraseCurveEmptiesTheSlot := by
  unfold Obligations.EraseCurveEmptiesTheSlot
  intro s f rest n waits payload states
  refine ⟨takeRequest .eraseCurve eraseCurve s, rfl, fun out => ?_, fun c hn => ⟨fun used => ?_, fun free => ?_⟩⟩
  · exact takeRequest_refused waits (eraseCurve_out_of_range payload out (s.taken rest))
  · exact takeRequest_refused waits (eraseCurve_inUse (s := s.taken rest) payload hn used)
  · exact takeRequest_changeLibrary waits (eraseCurve_erased (s := s.taken rest) payload hn free)

/-- Settles O21: the segment's interpolated value is the rounded quotient of R10, and every argument below 1000 has a segment. -/
theorem curveEvaluationInterpolates : Obligations.CurveEvaluationInterpolates := by
  unfold Obligations.CurveEvaluationInterpolates
  refine ⟨fun lib k slot x => ⟨fun h => curveEvaluation_empty h k x, fun c h => ⟨fun hk => ?_, fun hk => ?_⟩⟩, fun c h =>
    ⟨fun x hx => Curve.exists_eval_of_valid h hx, fun v hv => c.eval_last hv, fun before v w after x hc hv hw => ?_⟩⟩
  · rw [curveEvaluation_loaded h, if_neg hk]
  · rw [curveEvaluation_loaded h, if_pos hk]
  · obtain ⟨lower, upper⟩ := interpolate_between v.2 w.2 hv hw
    exact ⟨_, Curve.eval_of_segment h hc hv hw, lower, upper, interpolate_nearest v.2 w.2 hv hw⟩

end Sys2Proof.Machine
end

section
/-! SUPPORT. Load requests (R17, R18): the four answers of the shared steps, and what writing a record with its Readiness
Evaluation leaves of the Job Slots (R16, R19, R21). -/

namespace Sys2Proof.Machine

/-! ### The fields of a request -/

@[simp] theorem slotOf_val (j : SlotIdx) : slotOf j.val = some j := dif_pos j.isLt

theorem slotOf_eq_none {n : Nat} (h : 2 ≤ n) : slotOf n = none := dif_neg h.not_gt

@[simp] theorem towerOf_val (u : TowerIdx) : towerOf u.val = some u := dif_pos u.isLt

/-- A 2-byte value is read back from its two bytes. -/
theorem byte2_read {n : Nat} (h : n < 65536) : n / 256 % 256 * 256 + n % 256 = n := by omega

/-! ### The states of a slot (R15) -/

/-- A slot in the state of a role holds a job. -/
theorem JobSlot.exists_held_of_inRole {x : JobSlot} {role : Role} (h : x.inRole role = true) :
    ∃ job, x = .held role job := by
  cases x with
  | empty => cases h
  | held role' job => exact ⟨job, by rw [eq_of_beq h]⟩

/-- A RUNNING slot is not ARMED. -/
theorem JobSlot.not_armed_of_running {x : JobSlot} (running : x.inRole .running = true) : x.inRole .armed = false := by
  obtain ⟨job, rfl⟩ := JobSlot.exists_held_of_inRole running
  rfl

/-! ### The steps of a load request (R17) -/

theorem loadAnswer_congr {s t : State} (h : t.jobs = s.jobs) (j : SlotIdx) (u : TowerIdx) :
    loadAnswer j u t = loadAnswer j u s := by
  simp [loadAnswer, h]

section
variable {p : List Byte} {ok : Bool} {refusal : List Byte} {body : SlotIdx → TowerIdx → Verdict} {s : State} {j : SlotIdx}
  {u : TowerIdx}

/-- The fields of R18 for a slot and a tower in range. -/
theorem loadFields_eq (slot : u8 p 0 = j.val) (tower : u8 p 1 = u.val) (s : State) : loadFields p s = loadAnswer j u s := by
  simp [loadFields, loadAnswer, State.slotStates, State.readyNum, slot, tower]

theorem loadRequest_out_of_range (slot : u8 p 0 = j.val) (tower : u8 p 1 = u.val) (fields : ok = false) :
    loadRequest p ok refusal body s = ⟨s, .range, loadAnswer j u s ++ refusal⟩ := by
  rw [← loadFields_eq slot tower]
  simp [loadRequest, slot, tower, fields]

theorem loadRequest_armed (slot : u8 p 0 = j.val) (tower : u8 p 1 = u.val) (fields : ok = true)
    (armed : (look s.jobs j).inRole .armed = true) :
    loadRequest p ok refusal body s = ⟨s, .busy, loadAnswer j u s ++ refusal⟩ := by
  rw [← loadFields_eq slot tower]
  simp [loadRequest, slot, tower, fields, armed]

theorem loadRequest_refused {code : ResultCode} (slot : u8 p 0 = j.val) (tower : u8 p 1 = u.val) (fields : ok = true)
    (unarmed : (look s.jobs j).inRole .armed = false) (verdict : body j u = .refuse code) :
    loadRequest p ok refusal body s = ⟨s, code, loadAnswer j u s ++ refusal⟩ := by
  rw [← loadFields_eq slot tower]
  simp [loadRequest, slot, tower, fields, unarmed, verdict]

theorem loadRequest_accepted {t : State} {extra : List Byte} (slot : u8 p 0 = j.val) (tower : u8 p 1 = u.val)
    (fields : ok = true) (unarmed : (look s.jobs j).inRole .armed = false) (verdict : body j u = .accept t extra) :
    loadRequest p ok refusal body s = ⟨t, .ok, loadAnswer j u t ++ extra⟩ := by
  rw [← loadFields_eq slot tower]
  simp [loadRequest, slot, tower, fields, unarmed, verdict]
end

/-! ### Writing a record -/

/-- The state of a slot in which a job has been written: LOADING where it was EMPTY (R16). -/
def JobSlot.writtenRole : JobSlot → Role
  | .empty => .loading
  | .held role _ => role

/-- A job with every ready indication that of R20. -/
def Job.evaluated (lib : Library) (job : Job) : Job :=
  { job with ready := tab fun u => towerReady lib (look job.towers u) }

/-- The job of slot `j` with the record of tower `u` replaced. -/
def State.jobWith (s : State) (j : SlotIdx) (u : TowerIdx) (r : TowerSettings) : Job :=
  { (look s.jobs j).job with towers := s.withRecord j u r }

@[simp] theorem Job.evaluated_towers (lib : Library) (job : Job) : (job.evaluated lib).towers = job.towers := rfl

@[simp] theorem Job.evaluated_ready (lib : Library) (job : Job) (u : TowerIdx) :
    look (job.evaluated lib).ready u = towerReady lib (look job.towers u) := look_tab _ u

theorem storeJob_eq (j : SlotIdx) (job : Job) (s : State) :
    storeJob j job s = s.putJob j (.held (look s.jobs j).writtenRole job) := by
  unfold storeJob
  cases look s.jobs j <;> rfl

theorem readinessEvaluation_held {j : SlotIdx} {s : State} {role : Role} {job : Job} (h : look s.jobs j = .held role job) :
    readinessEvaluation j s
      = s.putJob j (.held (role.afterEvaluation (job.evaluated s.library)) (job.evaluated s.library)) := by
  simp [readinessEvaluation, h, Job.evaluated]

/-- Of the Job Slots, a record written with its Readiness Evaluation changes the one slot. -/
theorem readiness_write_jobs (j : SlotIdx) (u : TowerIdx) (r : TowerSettings) (s : State) :
    let job := (s.jobWith j u r).evaluated s.library
    (readinessEvaluation j (writeRecord j u r s)).jobs
      = put s.jobs j (.held ((look s.jobs j).writtenRole.afterEvaluation job) job) := by
  rw [writeRecord, storeJob_eq, readinessEvaluation_held (by rw [putJob_look, if_pos rfl])]
  simp [State.putJob, State.jobWith, State.withRecord]

/-- A Readiness Evaluation of a slot that is not ARMED: RUNNING stays, any other state follows the indications (R21). -/
theorem JobSlot.afterEvaluation_of_unarmed {x : JobSlot} (unarmed : x.inRole .armed = false) (job : Job) :
    x.writtenRole.afterEvaluation job = if x.inRole .running then .running else job.preparedRole := by
  cases x with
  | empty => rfl
  | held role old =>
    cases role with
    | loading => rfl
    | ready => rfl
    | armed => cases unarmed
    | running => rfl

/-- R21 for a job whose indications are those of R20. -/
theorem Job.evaluated_preparedRole (lib : Library) (job : Job) :
    (((∃ u, (look job.towers u).enabled = true) ∧ ∀ u, ¬ heldBack lib job.towers u)
        → (job.evaluated lib).preparedRole = .ready)
      ∧ (((∀ u, (look job.towers u).enabled = false) ∨ ∃ u, heldBack lib job.towers u)
        → (job.evaluated lib).preparedRole = .loading) := by
  simpa [heldBack] using (job.evaluated lib).preparedRole_spec

/-- Where a step leaves the Job Slots of a record written, with its Readiness Evaluation, in a slot that is not ARMED, it has
written that job. -/
theorem jobWritten_of_readiness_write {s t : State} {j : SlotIdx} {u : TowerIdx} {r : TowerSettings}
    (unarmed : (look s.jobs j).inRole .armed = false)
    (jobs : t.jobs = (readinessEvaluation j (writeRecord j u r s)).jobs) :
    JobWritten s t j (look s.jobs j).job.label (s.withRecord j u r) := by
  rw [readiness_write_jobs, JobSlot.afterEvaluation_of_unarmed unarmed] at jobs
  refine ⟨⟨_, (s.jobWith j u r).evaluated s.library, (congrArg (look · j) jobs).trans ((look_put ..).trans (if_pos rfl)),
    rfl, rfl, Job.evaluated_ready s.library (s.jobWith j u r), fun running => if_pos running, fun stopped => ?_⟩,
    fun i other => by rw [jobs, look_put, if_neg other.symm]⟩
  have prepares : ¬ (look s.jobs j).inRole .running = true := Bool.not_eq_true _ ▸ stopped
  rw [if_neg prepares]
  exact Job.evaluated_preparedRole s.library (s.jobWith j u r)

/-- A request whose handler accepts it with a record written in a slot that is not ARMED: the answer carries the fields of R18
as they are after it, and no other block but the Link Controller changes. -/
theorem takeRequest_recordWritten {s : State} {k : RequestKind} {f : Frame} {rest : List Frame} (h : Waits s k f rest)
    {g : List Byte → State → Reply} {j : SlotIdx} {u : TowerIdx} {r : TowerSettings}
    (unarmed : (look s.jobs j).inRole .armed = false)
    (hg : g f.payload (s.taken rest)
      = ⟨readinessEvaluation j (writeRecord j u r (s.taken rest)), .ok,
          loadAnswer j u (readinessEvaluation j (writeRecord j u r (s.taken rest)))⟩) :
    Answered s f rest 0 (loadAnswer j u (takeRequest k g s)) (takeRequest k g s)
      ∧ OnlyChanges [.jobs, .link] s (takeRequest k g s)
      ∧ JobWritten s (takeRequest k g s) j (look s.jobs j).job.label (s.withRecord j u r) := by
  obtain ⟨answered, frame, after⟩ := takeRequest_answered h g (bs := [.jobs])
    (by rw [hg]; exact readiness_write_frame j u r _) (by decide)
  rw [hg] at answered after
  exact ⟨loadAnswer_congr after.jobs j u ▸ answered, frame.mono (by decide),
    jobWritten_of_readiness_write (s := s.taken rest) unarmed after.jobs⟩

end Sys2Proof.Machine
end

section
/-! SUPPORT. Load Zone Map case by case (R26, R27). -/

namespace Sys2Proof.Machine

/-- The payload of a Load Zone Map carries slot `j`, tower `u` and the zone map `m` (R160). -/
structure CarriesMap (p : List Byte) (j : SlotIdx) (u : TowerIdx) (m : ZoneMap) : Prop where
  length : p.length = 7
  slot : u8 p 0 = j.val
  tower : u8 p 1 = u.val
  zones : u8 p 2 = m.zones
  edge : u16 p 3 = m.edge
  width : u16 p 5 = m.width

/-- The field check of R26. -/
def ZoneMap.inRange (m : ZoneMap) : Prop :=
  8 ≤ m.zones ∧ m.zones ≤ 48 ∧ 16 ≤ m.width ∧ m.width ≤ 4096 ∧ m.edge ≤ 32768 ∧ m.edge + m.zones * m.width ≤ 32768

theorem carriesMap_of_payload {p : List Byte} {j : SlotIdx} {u : TowerIdx} {zones edge width : Nat} (hz : zones < 256)
    (he : edge < 65536) (hw : width < 65536)
    (hp : p = byte1 j.val ++ byte1 u.val ++ byte1 zones ++ byte2 edge ++ byte2 width) :
    CarriesMap p j u ⟨zones, edge, width⟩ := by
  subst hp
  constructor
  case length => rfl
  case slot => exact Nat.mod_eq_of_lt (by omega)
  case tower => exact Nat.mod_eq_of_lt (by omega)
  case zones => exact Nat.mod_eq_of_lt hz
  case edge => exact byte2_read he
  case width => exact byte2_read hw

section
variable {p : List Byte} {j : SlotIdx} {u : TowerIdx} {m : ZoneMap} {s : State}

theorem mapOk_iff (h : CarriesMap p j u m) : mapOk p = true ↔ m.inRange := by
  simp [mapOk, ZoneMap.inRange, h.zones, h.edge, h.width, and_assoc]

theorem loadZoneMap_out_of_range (h : CarriesMap p j u m) (out : ¬ m.inRange) :
    loadZoneMap p s = ⟨s, .range, loadAnswer j u s⟩ := by
  rw [loadZoneMap, if_neg (not_not.2 h.length),
    loadRequest_out_of_range h.slot h.tower (Bool.eq_false_iff.2 (mt (mapOk_iff h).1 out)), List.append_nil]

theorem loadZoneMap_armed (h : CarriesMap p j u m) (fields : m.inRange) (armed : (look s.jobs j).inRole .armed = true) :
    loadZoneMap p s = ⟨s, .busy, loadAnswer j u s⟩ := by
  rw [loadZoneMap, if_neg (not_not.2 h.length), loadRequest_armed h.slot h.tower ((mapOk_iff h).2 fields) armed,
    List.append_nil]

theorem loadZoneMap_running (h : CarriesMap p j u m) (fields : m.inRange)
    (unarmed : (look s.jobs j).inRole .armed = false) (running : s.isRunning j = true) :
    loadZoneMap p s = ⟨s, .state, loadAnswer j u s⟩ := by
  rw [loadZoneMap, if_neg (not_not.2 h.length),
    loadRequest_refused h.slot h.tower ((mapOk_iff h).2 fields) unarmed (if_pos running), List.append_nil]

theorem loadZoneMap_opened (h : CarriesMap p j u m) (fields : m.inRange)
    (unarmed : (look s.jobs j).inRole .armed = false) (stopped : ¬ s.isRunning j = true)
    (opened : (s.record j u).strip = .opened) : loadZoneMap p s = ⟨s, .busy, loadAnswer j u s⟩ := by
  rw [loadZoneMap, if_neg (not_not.2 h.length),
    loadRequest_refused h.slot h.tower ((mapOk_iff h).2 fields) unarmed ((if_neg stopped).trans (if_pos opened)),
    List.append_nil]

theorem loadZoneMap_accepted (h : CarriesMap p j u m) (fields : m.inRange)
    (unarmed : (look s.jobs j).inRole .armed = false) (stopped : ¬ s.isRunning j = true)
    (unopened : ¬ (s.record j u).strip = .opened) :
    let t := readinessEvaluation j (writeRecord j u ((s.record j u).mapped m) s)
    loadZoneMap p s = ⟨t, .ok, loadAnswer j u t⟩ := by
  rw [loadZoneMap, if_neg (not_not.2 h.length),
    loadRequest_accepted h.slot h.tower ((mapOk_iff h).2 fields) unarmed ((if_neg stopped).trans (if_neg unopened)),
    List.append_nil, h.zones, h.edge, h.width]
end

end Sys2Proof.Machine
end

section
/-! SUPPORT. Clear Job case by case, and what an emptied slot leaves of the Job Slots and the buffers (R29, R35). -/

namespace Sys2Proof.Machine

@[simp] theorem freeBuffers_buffer (free : Buffer → Bool) (s : State) (i : Fin 4) :
    look (freeBuffers free s).buffers i = (look s.buffers i).filter fun b => !free b := by
  simp only [freeBuffers, setBuffers_buffers, look_tab]
  cases look s.buffers i with
  | none => rfl
  | some b => cases h : free b <;> simp [Option.filter, h]

@[simp] theorem freeBuffers_jobs (free : Buffer → Bool) (s : State) : (freeBuffers free s).jobs = s.jobs := rfl

@[simp] theorem emptySlot_job (j i : SlotIdx) (s : State) :
    look (emptySlot j s).jobs i = if j = i then .empty else look s.jobs i := by
  simp [emptySlot]

@[simp] theorem emptySlot_buffer (j : SlotIdx) (s : State) (i : Fin 4) :
    look (emptySlot j s).buffers i = (look s.buffers i).filter fun b => b.slot != j := by
  simp [emptySlot, bne]

theorem emptySlot_frees {j : SlotIdx} {s : State} {i : Fin 4} {b : Buffer} (bound : look s.buffers i = some b)
    (slot : b.slot = j) : look (emptySlot j s).buffers i = none := by
  simp [bound, slot, Option.filter]

theorem emptySlot_keeps {j : SlotIdx} {s : State} {i : Fin 4} (other : ∀ b, look s.buffers i = some b → b.slot ≠ j) :
    look (emptySlot j s).buffers i = look s.buffers i := by
  rw [emptySlot_buffer]
  cases h : look s.buffers i with
  | none => rfl
  | some b => simp [Option.filter, other b h]

/-- The fields of R29 for a payload that is the slot number alone. -/
theorem jobFields_singleton (n : Byte) (s : State) : jobFields [n] s = [n] ++ s.slotStates := by
  simp [jobFields, u8, byte1]

section
variable {p : List Byte} {a : Byte} {j : SlotIdx} {s : State}

theorem clearJob_out_of_range (hp : p = [a]) (h : 2 ≤ a.toNat) : clearJob p s = ⟨s, .range, [a] ++ s.slotStates⟩ := by
  subst hp
  simp [clearJob, jobFields_singleton, u8, slotOf_eq_none h]

theorem clearJob_running (hp : p = [a]) (ha : a.toNat = j.val) {job : Job} (h : look s.jobs j = .held .running job) :
    clearJob p s = ⟨s, .inUse, [a] ++ s.slotStates⟩ := by
  subst hp
  simp [clearJob, jobFields_singleton, u8, ha, h]

theorem clearJob_armed (hp : p = [a]) (ha : a.toNat = j.val) {job : Job} (h : look s.jobs j = .held .armed job) :
    clearJob p s = ⟨s, .busy, [a] ++ s.slotStates⟩ := by
  subst hp
  simp [clearJob, jobFields_singleton, u8, ha, h]

theorem clearJob_empty (hp : p = [a]) (ha : a.toNat = j.val) (h : look s.jobs j = .empty) :
    clearJob p s = ⟨s, .ok, [a] ++ s.slotStates⟩ := by
  subst hp
  simp [clearJob, jobFields_singleton, u8, ha, h]

theorem clearJob_prepared (hp : p = [a]) (ha : a.toNat = j.val) {role : Role} {job : Job}
    (h : look s.jobs j = .held role job) (prepared : role = .loading ∨ role = .ready) :
    clearJob p s = ⟨emptySlot j s, .ok, [a] ++ (emptySlot j s).slotStates⟩ := by
  subst hp
  obtain rfl | rfl := prepared
  · simp [clearJob, jobFields_singleton, u8, ha, h]
  · simp [clearJob, jobFields_singleton, u8, ha, h]
end

/-- A request whose handler empties a slot: the answer carries both slot states as they are after it, the slot's buffers are
free, and every other slot and buffer is kept. -/
theorem takeRequest_emptySlot {s : State} {k : RequestKind} {f : Frame} {rest : List Frame} (h : Waits s k f rest)
    {g : List Byte → State → Reply} {j : SlotIdx} {front : List Byte}
    (hg : g f.payload (s.taken rest)
      = ⟨emptySlot j (s.taken rest), .ok, front ++ (emptySlot j (s.taken rest)).slotStates⟩) :
    let t := takeRequest k g s
    Answered s f rest 0 (front ++ t.slotStates) t ∧ OnlyChanges [.jobs, .buffers, .link] s t
      ∧ look t.jobs j = .empty ∧ (∀ i, i ≠ j → look t.jobs i = look s.jobs i)
      ∧ (∀ i b, look s.buffers i = some b → b.slot = j → look t.buffers i = none)
      ∧ (∀ i, (∀ b, look s.buffers i = some b → b.slot ≠ j) → look t.buffers i = look s.buffers i) := by
  obtain ⟨answered, frame, after⟩ := takeRequest_answered h g (bs := [.jobs, .buffers])
    (by rw [hg]; exact emptySlot_frame j _) (by decide)
  rw [hg] at answered after
  refine ⟨slotStates_congr after.jobs ▸ answered, frame.mono (by decide), ?_, fun i other => ?_, fun i b bound slot => ?_,
    fun i other => ?_⟩
  · simp [after.jobs]
  · simp [after.jobs, other.symm]
  · rw [after.buffers]
    exact emptySlot_frees (s := s.taken rest) bound slot
  · rw [after.buffers]
    exact emptySlot_keeps (s := s.taken rest) other

end Sys2Proof.Machine
end

section
/-! PROOF. Jobs and Tower Settings (chapter 2): Load Zone Map and Clear Job. -/

namespace Sys2Proof.Machine

/-- Settles O27: the handler's five cases, each taken through the step of the request. -/
theorem loadZoneMapReplacesTheMap : Obligations.LoadZoneMapReplacesTheMap := by
  unfold Obligations.LoadZoneMapReplacesTheMap
  intro s f rest j u zones edge width waits hz he hw payload inRange armed running opened refused
  have carried := carriesMap_of_payload hz he hw payload
  refine ⟨takeRequest .loadZoneMap loadZoneMap s, rfl, fun out => ?_, fun fields isArmed => ?_, fun fields isRunning => ?_,
    fun fields unarmed stopped isOpen => ?_, fun fields unarmed stopped unopened => ?_⟩
  · exact takeRequest_refused waits (loadZoneMap_out_of_range carried out)
  · exact takeRequest_refused waits (loadZoneMap_armed (s := s.taken rest) carried fields isArmed)
  · exact takeRequest_refused waits
      (loadZoneMap_running (s := s.taken rest) carried fields (JobSlot.not_armed_of_running isRunning) isRunning)
  · exact takeRequest_refused waits
      (loadZoneMap_opened (s := s.taken rest) carried fields (Bool.eq_false_iff.2 unarmed) stopped isOpen)
  · exact takeRequest_recordWritten waits (Bool.eq_false_iff.2 unarmed)
      (loadZoneMap_accepted (s := s.taken rest) carried fields (Bool.eq_false_iff.2 unarmed) stopped unopened)

/-- Settles O29: a case per state of the slot, each taken through the step of the request. -/
theorem clearJobEmptiesAPreparedSlot : Obligations.ClearJobEmptiesAPreparedSlot := by
  unfold Obligations.ClearJobEmptiesAPreparedSlot
  intro s f rest a waits payload states
  refine ⟨takeRequest .clearJob clearJob s, rfl, fun out => ?_, fun j ha => ⟨fun running => ?_, fun armed => ?_,
    fun empty => ?_, fun role job held prepared => ?_⟩⟩
  · exact takeRequest_refused waits (clearJob_out_of_range payload out)
  · obtain ⟨job, held⟩ := JobSlot.exists_held_of_inRole running
    exact takeRequest_refused waits (clearJob_running (s := s.taken rest) payload ha held)
  · obtain ⟨job, held⟩ := JobSlot.exists_held_of_inRole armed
    exact takeRequest_refused waits (clearJob_armed (s := s.taken rest) payload ha held)
  · exact takeRequest_refused waits (clearJob_empty (s := s.taken rest) payload ha empty)
  · exact takeRequest_emptySlot waits (clearJob_prepared (s := s.taken rest) payload ha held prepared)

end Sys2Proof.Machine
end

section
/-! SUPPORT. Dispatch Scans (R79, R80, R81): when a step of a scan is made, what it starts, and what a whole scan leaves. -/

namespace Sys2Proof.Machine

/-! ### The candidate of a tower (R79) -/

theorem farthest_eq_none_iff {s : State} {u : TowerIdx} {l : List (ZoneIdx × Nat)} : farthest s u l = none ↔ l = [] := by
  cases l with
  | nil => simp [farthest]
  | cons c rest =>
    simp only [farthest, reduceCtorEq, iff_false]
    split
    · simp
    · split <;> simp

theorem farthest_mem {s : State} {u : TowerIdx} {l : List (ZoneIdx × Nat)} {c : ZoneIdx × Nat}
    (h : farthest s u l = some c) : c ∈ l := by
  induction l with
  | nil => simp [farthest] at h
  | cons d rest ih =>
    simp only [farthest] at h
    split at h
    · cases h
      exact List.mem_cons_self
    · next e he =>
      split at h
      · cases h
        exact List.mem_cons_of_mem d (ih he)
      · cases h
        exact List.mem_cons_self

theorem mem_waiting {s : State} {u : TowerIdx} {c : ZoneIdx × Nat} :
    c ∈ s.waiting u ↔ (s.zone u c.1).state = .pending ∧ ∃ g, s.targetOf u c.1 = some g ∧ g.k = c.2 := by
  obtain ⟨z, k⟩ := c
  simp only [State.waiting, List.mem_filterMap, mem_allZones, true_and]
  constructor
  · rintro ⟨y, hy⟩
    split at hy
    · next pending =>
      obtain ⟨g, hg, hc⟩ := Option.map_eq_some_iff.1 hy
      cases hc
      exact ⟨pending, g, hg, rfl⟩
    · cases hy
  · rintro ⟨pending, g, hg, rfl⟩
    exact ⟨z, by simp [pending, hg]⟩

/-- An eligible tower has a candidate. -/
theorem candidate_of_eligible {s : State} {u : TowerIdx} (h : s.eligible u = true) : ∃ c, s.candidate u = some c := by
  refine Option.ne_none_iff_exists'.1 fun none => ?_
  simp [State.eligible, farthest_eq_none_iff.1 none] at h

theorem eligible_congr {s t : State} (motion : t.motion = s.motion) (engine : t.engine = s.engine) (jobs : t.jobs = s.jobs)
    (cycle : t.cycle = s.cycle) (u : TowerIdx) : t.eligible u = s.eligible u := by
  have waiting : t.waiting u = s.waiting u := by
    simp only [State.waiting, zone_congr motion, targetOf_congr engine]
  have phase : t.mayMove u = s.mayMove u := by simp only [State.mayMove, tower_congr jobs, cycle]
  have effective : t.effective u = s.effective u := by simp only [State.effective, motion]
  simp only [State.eligible, waiting, phase, effective, motion]

/-! ### A step of a scan (R80, R81) -/

theorem mem_scanOrder (pointer u : TowerIdx) : u ∈ scanOrder pointer :=
  List.mem_map.2 ⟨u - pointer, mem_allTowers _, add_sub_cancel pointer u⟩

/-- Every step of a scan starts the candidate of the first eligible tower and moves the pointer past that tower. -/
theorem scanStep_starts {s t : State} (h : scanStep s = some t) :
    ∃ u z g, (scanOrder s.motion.pointer).find? s.eligible = some u ∧ s.candidate u = some (z, g.k)
      ∧ (s.zone u z).state = .pending ∧ s.targetOf u z = some g
      ∧ t = (startMove u z g.k s).setMotion { (startMove u z g.k s).motion with pointer := u + 1 } := by
  unfold scanStep at h
  split at h
  · cases h
  · next u hu =>
    split at h
    · cases h
    · next c hc =>
      obtain ⟨pending, g, hg, hk⟩ := mem_waiting.1 (farthest_mem hc)
      cases h
      exact ⟨u, c.1, g, hu, hk ▸ hc, pending, hg, by rw [hk]⟩

/-- There is no step exactly where no tower is eligible. -/
theorem scanStep_eq_none_iff {s : State} : scanStep s = none ↔ ∀ u, s.eligible u = false := by
  constructor
  · intro h u
    cases hf : (scanOrder s.motion.pointer).find? s.eligible with
    | none => exact Bool.eq_false_iff.2 (List.find?_eq_none.1 hf u (mem_scanOrder _ u))
    | some v =>
      obtain ⟨c, hc⟩ := candidate_of_eligible (List.find?_some hf)
      simp [scanStep, hf, hc] at h
  · intro h
    have none : (scanOrder s.motion.pointer).find? s.eligible = none := List.find?_eq_none.2 fun u _ => by simp [h u]
    simp [scanStep, none]

/-! ### Zones started or left (R81) -/

theorem StartedOrSame.congr {s s' t t' : State} {u : TowerIdx} {z : ZoneIdx} (h : StartedOrSame s t u z)
    (before : s'.zone u z = s.zone u z) (target : s'.targetOf u z = s.targetOf u z) (after : t'.zone u z = t.zone u z) :
    StartedOrSame s' t' u z := by
  unfold StartedOrSame
  rwa [before, target, after]

/-- A zone started in an earlier part of a scan is MOVING, so that a later part leaves it. -/
theorem StartedOrSame.trans {s t t' : State} {u : TowerIdx} {z : ZoneIdx} (h : StartedOrSame s t u z)
    (h' : StartedOrSame t t' u z) (target : t.targetOf u z = s.targetOf u z) : StartedOrSame s t' u z := by
  obtain same | ⟨pending, g, hg, started⟩ := h
  · exact h'.congr same.symm target.symm rfl
  · obtain same' | ⟨pending', -⟩ := h'
    · exact .inr ⟨pending, g, hg, same'.trans started⟩
    · simp [started] at pending'

theorem scanStep_startedOrSame {s t : State} (h : scanStep s = some t) (u : TowerIdx) (z : ZoneIdx) :
    StartedOrSame s t u z := by
  obtain ⟨v, y, g, -, -, pending, hg, rfl⟩ := scanStep_starts h
  have zones := startMove_zone v y g.k s u z
  by_cases here : v = u ∧ y = z
  · obtain ⟨rfl, rfl⟩ := here
    exact .inr ⟨pending, g, hg, zones.trans (if_pos ⟨rfl, rfl⟩)⟩
  · exact .inl (zones.trans (if_neg here))

theorem scanLoop_startedOrSame (n : Nat) (s : State) (u : TowerIdx) (z : ZoneIdx) : StartedOrSame s (scanLoop n s) u z := by
  induction n generalizing s with
  | zero => exact .inl rfl
  | succ n ih =>
    rw [scanLoop]
    split
    · exact .inl rfl
    · next s' step =>
      exact (scanStep_startedOrSame step u z).trans (ih s') (targetOf_congr (scanStep_frame step).engine u z)

theorem dispatchScan_startedOrSame (s : State) (u : TowerIdx) (z : ZoneIdx) : StartedOrSame s (dispatchScan s) u z :=
  scanLoop_startedOrSame _ s u z

/-! ### The limits a scan obeys -/

/-- What bounds motion in `t` is what bounds it in `s`: the fourteen limits of R83, and whether Restricted Motion holds. -/
structure SameBounds (s t : State) : Prop where
  cap : t.motion.cap = s.motion.cap
  timeout : t.motion.timeout = s.motion.timeout
  concurrency : t.motion.concurrency = s.motion.concurrency
  restricted : t.motion.restricted = s.motion.restricted

theorem SameBounds.trans {s t u : State} (h : SameBounds s t) (h' : SameBounds t u) : SameBounds s u :=
  ⟨h'.cap.trans h.cap, h'.timeout.trans h.timeout, h'.concurrency.trans h.concurrency, h'.restricted.trans h.restricted⟩

theorem scanStep_sameBounds {s t : State} (h : scanStep s = some t) : SameBounds s t := by
  obtain ⟨u, z, g, -, -, -, -, rfl⟩ := scanStep_starts h
  exact ⟨rfl, rfl, rfl, rfl⟩

theorem scanStep_pressInFlight {s t : State} (h : scanStep s = some t) :
    t.motion.pressInFlight = s.motion.pressInFlight + 1 := by
  obtain ⟨u, z, g, -, -, -, -, rfl⟩ := scanStep_starts h
  rfl

theorem scanLoop_sameBounds (n : Nat) (s : State) : SameBounds s (scanLoop n s) := by
  induction n generalizing s with
  | zero => exact ⟨rfl, rfl, rfl, rfl⟩
  | succ n ih =>
    rw [scanLoop]
    split
    · exact ⟨rfl, rfl, rfl, rfl⟩
    · next s' step => exact (scanStep_sameBounds step).trans (ih s')

theorem dispatchScan_sameBounds (s : State) : SameBounds s (dispatchScan s) := scanLoop_sameBounds _ s

/-! ### The end of a scan (R80) -/

theorem ScanExhausted.congr {s t : State} (h : ScanExhausted s) (motion : t.motion = s.motion) (engine : t.engine = s.engine)
    (jobs : t.jobs = s.jobs) (cycle : t.cycle = s.cycle) : ScanExhausted t := by
  unfold ScanExhausted
  rwa [motion, funext (eligible_congr motion engine jobs cycle)]

/-- Each step takes one place, so that as many steps as there are places below the Motion Cap exhaust the scan. -/
theorem scanLoop_exhausted (n : Nat) (s : State) (places : s.motion.cap ≤ s.motion.pressInFlight + n) :
    ScanExhausted (scanLoop n s) := by
  induction n generalizing s with
  | zero => exact .inl places
  | succ n ih =>
    rw [scanLoop]
    split
    · next none => exact .inr (scanStep_eq_none_iff.1 none)
    · next s' step =>
      have cap := (scanStep_sameBounds step).cap
      have count := scanStep_pressInFlight step
      exact ih s' (by omega)

theorem dispatchScan_exhausted (s : State) : ScanExhausted (dispatchScan s) := scanLoop_exhausted _ s (by omega)

end Sys2Proof.Machine
end

section
/-! SUPPORT. Restricted Motion re-evaluated (R82), and Set Motion Limits case by case (R83). -/

namespace Sys2Proof.Machine

/-! ### Restricted Motion -/

@[simp] theorem evalRestricted_motion (s : State) :
    (evalRestricted s).motion = { s.motion with restricted := decide (s.motion.cap < s.enabledConcurrency) } := by
  unfold evalRestricted
  dsimp only
  split <;> rfl

/-- MOTION_RESTRICTED is raised where Restricted Motion is entered. -/
theorem evalRestricted_notice_entered {s : State} (exceeded : s.motion.cap < s.enabledConcurrency)
    (before : s.motion.restricted = false) :
    (evalRestricted s).notice = (raise .motionRestricted none .absent s).notice := by
  simp [evalRestricted, exceeded, before, raise]

/-- Nothing is raised where Restricted Motion held before or does not hold now. -/
theorem evalRestricted_notice_kept {s : State} (h : ¬ (s.motion.cap < s.enabledConcurrency ∧ s.motion.restricted = false)) :
    (evalRestricted s).notice = s.notice := by
  rw [evalRestricted, if_neg (by simpa using h), setMotion_notice]

/-! ### The limits of a request -/

/-- The payload of a Set Motion Limits carries the Motion Cap, the move timeout and the concurrency limit of each tower
(R160). -/
structure CarriesLimits (p : List Byte) (cap timeout : Nat) (limit : TowerIdx → Nat) : Prop where
  length : p.length = 14
  cap : u8 p 0 = cap
  timeout : u8 p 1 = timeout
  limit : ∀ u : TowerIdx, u8 p (2 + u.val) = limit u

/-- The field check of R83. -/
def limitsInRange (cap timeout : Nat) (limit : TowerIdx → Nat) : Prop :=
  1 ≤ cap ∧ cap ≤ 32 ∧ 1 ≤ timeout ∧ ∀ u, 1 ≤ limit u ∧ limit u ≤ 8

/-- The fourteen limits replaced, before anything follows from it (R83). -/
def State.withLimits (s : State) (cap timeout : Nat) (limit : TowerIdx → Nat) : State :=
  s.setMotion { s.motion with cap := cap, timeout := timeout, concurrency := tab limit }

/-- The state an accepted Set Motion Limits leaves: the limits replaced, Restricted Motion re-evaluated, a Dispatch Scan
made (R83). -/
def State.limited (s : State) (cap timeout : Nat) (limit : TowerIdx → Nat) : State :=
  dispatchScan (evalRestricted (s.withLimits cap timeout limit))

/-- The sum of the limits over the towers enabled in the running job (R82). -/
def State.enabledSum (s : State) (limit : TowerIdx → Nat) : Nat :=
  (allTowers.map fun u => if (s.tower u).enabled then limit u else 0).sum

theorem enabledSum_congr {s t : State} (h : t.jobs = s.jobs) (limit : TowerIdx → Nat) :
    t.enabledSum limit = s.enabledSum limit := by
  simp only [State.enabledSum, tower_congr h]

theorem u8_flatMap_byte1 (g : TowerIdx → Nat) (u : TowerIdx) (h : g u < 256) :
    u8 (allTowers.flatMap fun v => byte1 (g v)) u.val = g u := by
  have single : (allTowers.flatMap fun v => byte1 (g v)) = allTowers.map fun v => BitVec.ofNat 8 (g v) :=
    List.flatMap_pure_eq_map _ _
  rw [u8, single]
  simp [allTowers, Nat.mod_eq_of_lt h]

section
variable {p : List Byte} {cap timeout : Nat} {limit : TowerIdx → Nat} {s : State}

theorem carriesLimits_of_payload (hc : cap < 256) (ht : timeout < 256) (hl : ∀ u, limit u < 256)
    (hp : p = byte1 cap ++ byte1 timeout ++ allTowers.flatMap fun u => byte1 (limit u)) :
    CarriesLimits p cap timeout limit := by
  subst hp
  constructor
  case length => rfl
  case cap => exact Nat.mod_eq_of_lt hc
  case timeout => exact Nat.mod_eq_of_lt ht
  case limit =>
    intro u
    rw [← u8_flatMap_byte1 limit u (hl u), Nat.add_comm]
    rfl

theorem limitsOk_iff (h : CarriesLimits p cap timeout limit) : limitsOk p = true ↔ limitsInRange cap timeout limit := by
  simp [limitsOk, limitsInRange, h.cap, h.timeout, h.limit, and_assoc]

theorem setMotionLimits_out_of_range (h : CarriesLimits p cap timeout limit) (out : ¬ limitsInRange cap timeout limit) :
    setMotionLimits p s = ⟨s, .range, []⟩ := by
  rw [setMotionLimits, if_neg (not_not.2 h.length), if_neg (mt (limitsOk_iff h).1 out)]
  rfl

theorem setMotionLimits_accepted (h : CarriesLimits p cap timeout limit) (fields : limitsInRange cap timeout limit) :
    setMotionLimits p s = ⟨s.limited cap timeout limit, .ok,
      (s.limited cap timeout limit).limitBytes ++ byte1 (flagNum (s.limited cap timeout limit).motion.restricted)⟩ := by
  rw [setMotionLimits, if_neg (not_not.2 h.length), if_pos ((limitsOk_iff h).2 fields)]
  simp only [h.cap, h.timeout, h.limit, State.limited, State.withLimits]
end

/-! ### What an accepted request leaves -/

section
variable (s : State) (cap timeout : Nat) (limit : TowerIdx → Nat)

theorem withLimits_motion : (s.withLimits cap timeout limit).motion
    = { s.motion with cap := cap, timeout := timeout, concurrency := tab limit } := rfl

theorem withLimits_enabledConcurrency : (s.withLimits cap timeout limit).enabledConcurrency = s.enabledSum limit := by
  simp [State.enabledConcurrency, State.enabledSum, State.withLimits, tower_congr (setMotion_jobs s _)]

theorem limited_frame : OnlyChanges [.motion, .trim, .notice] s (s.limited cap timeout limit) :=
  .after (dispatchScan_frame _) (.after (evalRestricted_frame _) ((setMotion_frame s _).mono (by decide)))

/-- The scan obeys the new limits. -/
theorem limited_sameBounds : SameBounds (evalRestricted (s.withLimits cap timeout limit)) (s.limited cap timeout limit) :=
  dispatchScan_sameBounds _

theorem limited_cap : (s.limited cap timeout limit).motion.cap = cap := by
  rw [(limited_sameBounds s cap timeout limit).cap, evalRestricted_motion, withLimits_motion]

theorem limited_timeout : (s.limited cap timeout limit).motion.timeout = timeout := by
  rw [(limited_sameBounds s cap timeout limit).timeout, evalRestricted_motion, withLimits_motion]

theorem limited_concurrency (u : TowerIdx) : look (s.limited cap timeout limit).motion.concurrency u = limit u := by
  rw [(limited_sameBounds s cap timeout limit).concurrency, evalRestricted_motion, withLimits_motion, look_tab]

theorem limited_restricted : (s.limited cap timeout limit).motion.restricted = decide (cap < s.enabledSum limit) := by
  rw [(limited_sameBounds s cap timeout limit).restricted, evalRestricted_motion, withLimits_enabledConcurrency,
    withLimits_motion]

theorem limited_limitBytes :
    (s.limited cap timeout limit).limitBytes
      = byte1 cap ++ byte1 timeout ++ allTowers.flatMap fun u => byte1 (limit u) := by
  simp only [State.limitBytes, limited_cap, limited_timeout, limited_concurrency]

theorem limited_notice_entered (exceeded : cap < s.enabledSum limit) (before : s.motion.restricted = false) :
    (s.limited cap timeout limit).notice = (raise .motionRestricted none .absent s).notice := by
  rw [State.limited, (dispatchScan_frame _).notice]
  exact evalRestricted_notice_entered (by rwa [withLimits_enabledConcurrency]) before

theorem limited_notice_kept (h : ¬ (cap < s.enabledSum limit ∧ s.motion.restricted = false)) :
    (s.limited cap timeout limit).notice = s.notice := by
  rw [State.limited, (dispatchScan_frame _).notice]
  exact evalRestricted_notice_kept (by rwa [withLimits_enabledConcurrency])

/-- Replacing the limits and re-evaluating Restricted Motion leave every zone, and its timer with it; the scan starts some. -/
theorem limited_startedOrSame (u : TowerIdx) (z : ZoneIdx) : StartedOrSame s (s.limited cap timeout limit) u z := by
  refine (dispatchScan_startedOrSame _ u z).congr ?_ ?_ rfl
  · simp [State.zone, State.withLimits]
  · exact targetOf_congr (evalRestricted_frame (s.withLimits cap timeout limit)).engine.symm u z

theorem limited_exhausted : ScanExhausted (s.limited cap timeout limit) := dispatchScan_exhausted _
end

/-- A request whose handler accepts it with new limits: the answer carries them and whether Restricted Motion holds under
them, and no block but those of `limited_frame` and the Link Controller changes. -/
theorem takeRequest_limited {s : State} {k : RequestKind} {f : Frame} {rest : List Frame} (h : Waits s k f rest)
    {g : List Byte → State → Reply} {cap timeout : Nat} {limit : TowerIdx → Nat}
    (hg : g f.payload (s.taken rest) = ⟨(s.taken rest).limited cap timeout limit, .ok,
      ((s.taken rest).limited cap timeout limit).limitBytes
        ++ byte1 (flagNum ((s.taken rest).limited cap timeout limit).motion.restricted)⟩) :
    let t := takeRequest k g s
    Answered s f rest 0 (byte1 cap ++ byte1 timeout ++ allTowers.flatMap (fun u => byte1 (limit u))
        ++ [if cap < s.enabledSum limit then 1 else 0]) t
      ∧ OnlyChanges [.motion, .trim, .notice, .link] s t
      ∧ OnlyChanges [.link] ((s.taken rest).limited cap timeout limit) t := by
  have bit : byte1 (flagNum ((s.taken rest).limited cap timeout limit).motion.restricted)
      = [if cap < s.enabledSum limit then 1 else 0] := by
    rw [limited_restricted, enabledSum_congr (taken_jobs s rest)]
    by_cases exceeded : cap < s.enabledSum limit
    · simp [exceeded, byte1, flagNum]
    · simp [exceeded, byte1, flagNum]
  intro t
  have handled : OnlyChanges [.motion, .trim, .notice] (s.taken rest) (g f.payload (s.taken rest)).state := by
    simpa only [hg] using limited_frame (s.taken rest) cap timeout limit
  obtain ⟨answered, frame, after⟩ := takeRequest_answered h g handled (by decide)
  simp only [hg, limited_limitBytes, bit] at answered after
  exact ⟨answered, frame.mono (by decide), after⟩

end Sys2Proof.Machine
end

section
/-! PROOF. Key motion (chapter 5): Set Motion Limits. -/

namespace Sys2Proof.Machine

/-- Settles O39: the handler's two cases, each taken through the step of the request; what the accepted case leaves is that of
the limits replaced, R82 and the scan of R80, in that order. -/
theorem setMotionLimitsReplacesTheLimits : Obligations.SetMotionLimitsReplacesTheLimits := by
  unfold Obligations.SetMotionLimitsReplacesTheLimits
  intro s f rest cap timeout limit waits hc ht hl payload inRange sum
  have carried := carriesLimits_of_payload hc ht hl payload
  refine ⟨takeRequest .setMotionLimits setMotionLimits s, rfl, fun out => ?_, fun fields => ?_⟩
  · exact takeRequest_refused waits (setMotionLimits_out_of_range carried out)
  · obtain ⟨answered, frame, after⟩ := takeRequest_limited waits (setMotionLimits_accepted carried fields)
    have motion := after.motion
    refine ⟨payload ▸ answered, frame, ?_, ?_, fun u => ?_, ?_, fun ⟨exceeded, before⟩ => ?_, fun kept => ?_, fun u z => ?_, ?_⟩
    · rw [motion, limited_cap]
    · rw [motion, limited_timeout]
    · rw [motion, limited_concurrency]
    · rw [motion, limited_restricted]
      exact decide_eq_true_iff
    · rw [after.notice]
      exact limited_notice_entered (s.taken rest) cap timeout limit exceeded before
    · rw [after.notice]
      exact limited_notice_kept (s.taken rest) cap timeout limit kept
    · exact (limited_startedOrSame (s.taken rest) cap timeout limit u z).congr rfl rfl (zone_congr motion u z)
    · exact (limited_exhausted (s.taken rest) cap timeout limit).congr motion after.engine after.jobs after.cycle

end Sys2Proof.Machine
end

section
/-! SUPPORT. The Trim Bands: the membership of a band case by case (R109), and the trim step as a weighted mean (R110). -/

namespace Sys2Proof.Machine

/-! ### The membership of a band (R109) -/

section
variable {w : Band} {x : Nat}

theorem Band.membership_peak (peak : x = w.peak) : w.membership x = 255 := if_pos peak

theorem Band.membership_of_lt (below : x < w.peak) :
    w.membership x = if 0 < w.left ∧ w.peak ≤ x + w.left then 255 * (x + w.left - w.peak) / w.left else 0 := by
  rw [Band.membership, if_neg below.ne, if_pos below]

theorem Band.membership_of_gt (above : w.peak < x) :
    w.membership x = if w.right = 0 then 255
      else if x ≤ w.peak + w.right then 255 * (w.peak + w.right - x) / w.right else 0 := by
  rw [Band.membership, if_neg above.ne', if_neg above.not_gt]

/-- The rising edge, in the statement's signed arithmetic. -/
theorem Band.membership_rising (below : x < w.peak) (spread : 0 < w.left) (reach : w.peak ≤ x + w.left) :
    (w.membership x : Int) = 255 * ((x : Int) - (w.peak - w.left)) / w.left := by
  rw [Band.membership_of_lt below, if_pos ⟨spread, reach⟩]
  push_cast [Nat.cast_sub reach]
  congr 2
  ring

theorem Band.membership_before (below : x < w.peak) (out : w.left = 0 ∨ x + w.left < w.peak) : w.membership x = 0 := by
  rw [Band.membership_of_lt below, if_neg]
  omega

theorem Band.membership_shoulder (above : w.peak < x) (none : w.right = 0) : w.membership x = 255 := by
  rw [Band.membership_of_gt above, if_pos none]

/-- The falling edge, in the statement's signed arithmetic. -/
theorem Band.membership_falling (above : w.peak < x) (spread : 0 < w.right) (reach : x ≤ w.peak + w.right) :
    (w.membership x : Int) = 255 * ((w.peak : Int) + w.right - x) / w.right := by
  rw [Band.membership_of_gt above, if_neg spread.ne', if_pos reach]
  push_cast [Nat.cast_sub reach]
  rfl

theorem Band.membership_beyond (beyond : w.peak + w.right < x) (spread : 0 < w.right) : w.membership x = 0 := by
  rw [Band.membership_of_gt (by omega), if_neg spread.ne', if_neg beyond.not_ge]

/-- A share `k / b` of 255, rounded down, is at most 255. -/
theorem share_le {k b : Nat} (h : k ≤ b) : 255 * k / b ≤ 255 :=
  Nat.div_le_of_le_mul (by rw [Nat.mul_comm b]; exact Nat.mul_le_mul_left 255 h)

theorem Band.membership_le (w : Band) (x : Nat) : w.membership x ≤ 255 := by
  obtain below | rfl | above := lt_trichotomy x w.peak
  · rw [Band.membership_of_lt below]
    split
    · exact share_le (by omega)
    · exact Nat.zero_le _
  · exact (Band.membership_peak rfl).le
  · rw [Band.membership_of_gt above]
    split
    · exact le_rfl
    · split
      · exact share_le (by omega)
      · exact Nat.zero_le _
end

/-! ### The trim step (R110) -/

/-- A quotient of at least `d` rounds to at least `d`. -/
theorem le_halfUp {a b d : Nat} (hb : 0 < b) (h : d * b ≤ a) : d ≤ halfUp a b :=
  (Nat.le_div_iff_mul_le (by omega)).2 (by linarith only [h])

/-- A weighted total lies between the weight times any bounds on the values of positive weight. -/
theorem weighted_total_between {α : Type} (m v : α → Nat) (l : List α) {lo hi : Nat}
    (bounded : ∀ w ∈ l, 0 < m w → lo ≤ v w ∧ v w ≤ hi) :
    lo * (l.map m).sum ≤ (l.map fun w => m w * v w).sum ∧ (l.map fun w => m w * v w).sum ≤ hi * (l.map m).sum := by
  have each : ∀ w ∈ l, lo * m w ≤ m w * v w ∧ m w * v w ≤ hi * m w := by
    intro w hw
    obtain zero | positive := (m w).eq_zero_or_pos
    · simp [zero]
    · obtain ⟨lower, upper⟩ := bounded w hw positive
      rw [Nat.mul_comm (m w)]
      exact ⟨Nat.mul_le_mul_right _ lower, Nat.mul_le_mul_right _ upper⟩
  rw [← List.sum_map_mul_left, ← List.sum_map_mul_left]
  exact ⟨List.sum_le_sum fun w hw => (each w hw).1, List.sum_le_sum fun w hw => (each w hw).2⟩

/-- The weighted mean, half up, lies between any bounds on the values of positive weight. -/
theorem weighted_mean_between {α : Type} (m v : α → Nat) (l : List α) {lo hi : Nat} (weighs : 0 < (l.map m).sum)
    (bounded : ∀ w ∈ l, 0 < m w → lo ≤ v w ∧ v w ≤ hi) :
    lo ≤ halfUp (l.map fun w => m w * v w).sum (l.map m).sum
      ∧ halfUp (l.map fun w => m w * v w).sum (l.map m).sum ≤ hi := by
  obtain ⟨lower, upper⟩ := weighted_total_between m v l bounded
  exact ⟨le_halfUp weighs lower, halfUp_le weighs upper⟩

/-- The three bands, in the order in which the statement lists them. -/
def Trim.bands (u : Trim) : List Band := [u.small, u.medium, u.large]

/-- The trim step as the mean over the list of bands. -/
theorem Trim.stepAt_eq (u : Trim) (x : Nat) :
    u.stepAt x = if (u.bands.map fun w => w.membership x).sum = 0 then none
      else some (halfUp (u.bands.map fun w => w.membership x * w.step).sum (u.bands.map fun w => w.membership x).sum) := by
  simp [Trim.stepAt, Trim.weight, Trim.bands, add_assoc]

end Sys2Proof.Machine
end

section
/-! SUPPORT. Arm Trim case by case (R113): the towers a field names, and the number that carries a set. -/

namespace Sys2Proof.Machine

/-! ### A set as a number (section 9.10) -/

theorem setNum_eq_sum {n : Nat} (v : Vector Bool n) : setNum v = ∑ i : Fin n, flagNum (look v i) * 2 ^ i.val := by
  rw [Fin.sum_univ_def, List.sum_eq_foldl, List.foldl_map]
  rfl

theorem sum_flagNum_eq_ofBits {n : Nat} (f : Fin n → Bool) : ∑ i : Fin n, flagNum (f i) * 2 ^ i.val = Nat.ofBits f := by
  induction n with
  | zero => rfl
  | succ n ih =>
    have tail : ∑ i : Fin n, flagNum (f i.succ) * 2 ^ i.succ.val = 2 * Nat.ofBits (f ∘ Fin.succ) := by
      rw [← ih, Finset.mul_sum]
      exact Finset.sum_congr rfl fun i _ => by rw [Fin.val_succ, Function.comp_apply]; ring
    have head : flagNum (f 0) * 2 ^ (0 : Fin (n + 1)).val = (f 0).toNat := by cases f 0 <;> rfl
    rw [Fin.sum_univ_succ, Nat.ofBits_succ, tail, head, Nat.add_comm]

theorem setNum_eq_ofBits {n : Nat} (v : Vector Bool n) : setNum v = Nat.ofBits (look v) := by
  rw [setNum_eq_sum, sum_flagNum_eq_ofBits]

theorem setNum_lt {n : Nat} (v : Vector Bool n) : setNum v < 2 ^ n := setNum_eq_ofBits v ▸ Nat.ofBits_lt_two_pow _

@[simp] theorem setNum_testBit {n : Nat} (v : Vector Bool n) (i : Fin n) : (setNum v).testBit i.val = look v i := by
  rw [setNum_eq_ofBits, Nat.testBit_ofBits_lt]

/-! ### The towers a field names -/

theorem towersNamed_eq_none {n : Nat} (other : n ≠ 255) (out : 12 ≤ n) : towersNamed n = none := by
  simp [towersNamed, other, towerOf, out.not_gt]

/-- A tower number names its tower, ALL names every tower. -/
theorem towersNamed_eq_some {n : Nat} (h : n < 12 ∨ n = 255) :
    ∃ ts, towersNamed n = some ts ∧ ∀ u : TowerIdx, u ∈ ts ↔ n = 255 ∨ n = u.val := by
  by_cases all : n = 255
  · exact ⟨allTowers, if_pos all, fun u => by simp [all]⟩
  · have lt : n < 12 := h.resolve_right all
    exact ⟨[⟨n, lt⟩], by simp [towersNamed, all, towerOf, lt], fun u => by simp [all, Fin.ext_iff, eq_comm]⟩

/-! ### The cases of the request -/

/-- The state an accepted Arm Trim leaves: Trim Armed written for the named towers (R113). -/
def State.armTowers (s : State) (ts : List TowerIdx) (on : Bool) : State :=
  s.setTrim { s.trim with armed := tab fun u => if u ∈ ts then on else look s.trim.armed u }

section
variable {p : List Byte} {a b : Byte} {s : State}

theorem armTrim_unnamed (hp : p = [a, b]) (none : towersNamed a.toNat = none) : armTrim p s = ⟨s, .range, []⟩ := by
  subst hp
  simp [armTrim, Reply.bare, u8, none]

theorem armTrim_no_flag (hp : p = [a, b]) (other : ¬ b.toNat ≤ 1) : armTrim p s = ⟨s, .range, []⟩ := by
  have flag : isFlag b.toNat = false := decide_eq_false (by omega)
  subst hp
  cases named : towersNamed a.toNat with
  | none => exact armTrim_unnamed rfl named
  | some ts => simp [armTrim, Reply.bare, u8, named, flag]

theorem armTrim_out_of_range (hp : p = [a, b]) (out : ¬ ((a.toNat < 12 ∨ a = 0xFF) ∧ b.toNat ≤ 1)) :
    armTrim p s = ⟨s, .range, []⟩ := by
  by_cases tower : a.toNat < 12 ∨ a = 0xFF
  · exact armTrim_no_flag hp fun flag => out ⟨tower, flag⟩
  · refine armTrim_unnamed hp (towersNamed_eq_none (fun all => tower (.inr (BitVec.eq_of_toNat_eq all))) ?_)
    exact Nat.le_of_not_lt fun lt => tower (.inl lt)

theorem armTrim_accepted (hp : p = [a, b]) {ts : List TowerIdx} (named : towersNamed a.toNat = some ts)
    (flag : b.toNat ≤ 1) :
    armTrim p s = ⟨s.armTowers ts (b == 1), .ok, byte2 (setNum (s.armTowers ts (b == 1)).trim.armed)⟩ := by
  have isFlag : isFlag b.toNat = true := decide_eq_true (by omega)
  have on : (b.toNat == 1) = (b == 1) := by rw [Bool.eq_iff_iff, beq_iff_eq, beq_iff_eq]; exact BitVec.toNat_inj (y := 1)
  subst hp
  simp [armTrim, State.armTowers, u8, named, isFlag, on]
end

end Sys2Proof.Machine
end

section
/-! SUPPORT. Load Trim Bands case by case (R115). -/

namespace Sys2Proof.Machine

/-! ### A band in a payload (R160) -/

/-- A band's fields fit their bytes. -/
structure Band.Fits (w : Band) : Prop where
  peak : w.peak < 65536
  left : w.left < 65536
  right : w.right < 65536
  step : w.step < 256

theorem u8_append_right (front l : List Byte) (k : Nat) : u8 (front ++ l) (front.length + k) = u8 l k := by
  rw [u8, List.getD_append_right _ _ _ _ (Nat.le_add_right _ _), Nat.add_sub_cancel_left, u8]

/-- A band is read back from its seven bytes, wherever they stand. -/
theorem bandAt_bytes {w : Band} (fits : w.Fits) (front back : List Byte) :
    bandAt (front ++ (w.bytes ++ back)) front.length = w := by
  have read (k : Nat) : u8 (front ++ (w.bytes ++ back)) (front.length + k) = u8 (w.bytes ++ back) k :=
    u8_append_right _ _ k
  have split : bandAt (front ++ (w.bytes ++ back)) front.length = bandAt (w.bytes ++ back) 0 := by
    simp only [bandAt, u16, Nat.add_assoc, read, ← read 0, Nat.add_zero, Nat.zero_add]
  rw [split]
  exact congr (congr (congr (congrArg Band.mk (byte2_read fits.peak)) (byte2_read fits.left)) (byte2_read fits.right))
    (Nat.mod_eq_of_lt fits.step)

/-- The payload of a Load Trim Bands carries the three bands (R160). -/
structure CarriesBands (p : List Byte) (small medium large : Band) : Prop where
  length : p.length = 21
  bytes : small.bytes ++ medium.bytes ++ large.bytes = p
  small : bandAt p 0 = small
  medium : bandAt p 7 = medium
  large : bandAt p 14 = large

theorem carriesBands_of_payload {p : List Byte} {small medium large : Band} (fits : ∀ w ∈ [small, medium, large], w.Fits)
    (hp : p = [small, medium, large].flatMap Band.bytes) : CarriesBands p small medium large := by
  have whole : p = small.bytes ++ (medium.bytes ++ (large.bytes ++ [])) := hp
  subst whole
  constructor
  case length => rfl
  case small => exact bandAt_bytes (fits small (by simp)) [] _
  case medium => exact bandAt_bytes (fits medium (by simp)) small.bytes _
  case large =>
    rw [← List.append_assoc]
    exact bandAt_bytes (fits large (by simp)) (small.bytes ++ medium.bytes) _
  case bytes => simp

/-! ### The cases of the request -/

/-- The field check of R115 on one band. -/
def Band.FieldsInRange (w : Band) : Prop := w.peak ≤ 3000 ∧ w.left ≤ 3000 ∧ w.right ≤ 3000

/-- The state an accepted Load Trim Bands leaves: the three bands replaced (R115). -/
def State.withBands (s : State) (small medium large : Band) : State :=
  s.setTrim { s.trim with small := small, medium := medium, large := large }

/-- A step of one byte is always in range. -/
theorem Band.inRange_iff {w : Band} (fits : w.Fits) : w.inRange = true ↔ w.FieldsInRange := by
  simp [Band.inRange, Band.FieldsInRange, Nat.le_of_lt_succ fits.step, and_assoc]

section
variable {p : List Byte} {small medium large : Band} {s : State}

theorem bandsOk_iff (h : CarriesBands p small medium large) (fits : ∀ w ∈ [small, medium, large], w.Fits) :
    ((bandAt p 0).inRange && (bandAt p 7).inRange && (bandAt p 14).inRange) = true
      ↔ ∀ w ∈ [small, medium, large], w.FieldsInRange := by
  rw [h.small, h.medium, h.large]
  simp [Band.inRange_iff (fits small (by simp)), Band.inRange_iff (fits medium (by simp)),
    Band.inRange_iff (fits large (by simp)), and_assoc]

theorem loadTrimBands_out_of_range (h : CarriesBands p small medium large)
    (fits : ∀ w ∈ [small, medium, large], w.Fits) (out : ¬ ∀ w ∈ [small, medium, large], w.FieldsInRange) :
    loadTrimBands p s = ⟨s, .range, []⟩ := by
  rw [loadTrimBands, if_neg (not_not.2 h.length), if_neg (mt (bandsOk_iff h fits).1 out)]
  rfl

theorem loadTrimBands_accepted (h : CarriesBands p small medium large)
    (fits : ∀ w ∈ [small, medium, large], w.Fits) (fields : ∀ w ∈ [small, medium, large], w.FieldsInRange) :
    loadTrimBands p s = ⟨s.withBands small medium large, .ok, p⟩ := by
  rw [loadTrimBands, if_neg (not_not.2 h.length), if_pos ((bandsOk_iff h fits).2 fields), h.small, h.medium, h.large]
  exact congrArg _ h.bytes
end

/-- A request whose handler accepts it with the Trim Unit's block written. -/
theorem takeRequest_setTrim {s : State} {k : RequestKind} {f : Frame} {rest : List Frame} (h : Waits s k f rest)
    {g : List Byte → State → Reply} {x : Trim} {fields : List Byte}
    (hg : g f.payload (s.taken rest) = ⟨(s.taken rest).setTrim x, .ok, fields⟩) :
    Answered s f rest 0 fields (takeRequest k g s) ∧ OnlyChanges [.trim, .link] s (takeRequest k g s)
      ∧ (takeRequest k g s).trim = x := by
  obtain ⟨answered, frame, after⟩ := takeRequest_answered h g (bs := [.trim])
    (by rw [hg]; exact setTrim_frame _ x) (by decide)
  rw [hg] at answered after
  exact ⟨answered, frame.mono (by decide), after.trim⟩

end Sys2Proof.Machine
end

section
/-! PROOF. Density trim (chapter 6): the Trim Bands, Arm Trim and Load Trim Bands. -/

namespace Sys2Proof.Machine

/-- Settles O43: a case per row of the table of R109; the trim step is a weighted mean and so lies between the steps that
have weight. -/
theorem trimStepFollowsTheBands : Obligations.TrimStepFollowsTheBands := by
  unfold Obligations.TrimStepFollowsTheBands
  constructor
  · intro w x m
    refine ⟨fun peak => ?_, Band.membership_rising, fun below out => ?_, fun above none => ?_, Band.membership_falling,
      fun beyond spread => ?_, Nat.cast_le.2 (w.membership_le x)⟩
    · exact congrArg Nat.cast (Band.membership_peak peak)
    · exact congrArg Nat.cast (Band.membership_before below out)
    · exact congrArg Nat.cast (Band.membership_shoulder above none)
    · exact congrArg Nat.cast (Band.membership_beyond beyond spread)
  · intro u x bands weight total
    refine ⟨fun none => ?_, fun some => ⟨?_, fun lo hi bounded => ?_⟩⟩
    · exact (u.stepAt_eq x).trans (if_pos none)
    · exact (u.stepAt_eq x).trans (if_neg some)
    · exact weighted_mean_between (fun w => w.membership x) Band.step bands (Nat.pos_of_ne_zero some) bounded

/-- Settles O47: each handler refuses or writes, and both cases are taken through the step of the request. -/
theorem armTrimAndTrimBandsAreWritten : Obligations.ArmTrimAndTrimBandsAreWritten := by
  unfold Obligations.ArmTrimAndTrimBandsAreWritten
  constructor
  · intro s f rest a b waits payload inRange
    refine ⟨takeRequest .armTrim armTrim s, rfl, fun out => ?_, fun ⟨tower, flag⟩ => ?_⟩
    · exact takeRequest_refused waits (armTrim_out_of_range payload out)
    · obtain ⟨ts, named, mem⟩ := towersNamed_eq_some (tower.imp_right fun all => congrArg BitVec.toNat all)
      have all : a.toNat = 255 ↔ a = 0xFF := BitVec.toNat_inj (y := 0xFF)
      obtain ⟨answered, frame, trim⟩ := takeRequest_setTrim waits (armTrim_accepted payload named flag)
      refine ⟨frame, ?_, fun u => ?_, _, setNum_lt (n := 12) _, fun u => setNum_testBit _ u, ?_⟩
      · rw [trim]
        rfl
      · simp only [trim, look_tab, mem, all, taken_trim]
      · rw [trim]
        exact answered
  · intro s f rest small medium large waits bytes payload inRange
    have fits : ∀ w ∈ [small, medium, large], w.Fits := fun w hw =>
      have ⟨peak, left, right, step⟩ := bytes w hw
      ⟨peak, left, right, step⟩
    have carried := carriesBands_of_payload fits payload
    refine ⟨takeRequest .loadTrimBands loadTrimBands s, rfl, fun out => ?_, fun fields => ?_⟩
    · exact takeRequest_refused waits (loadTrimBands_out_of_range carried fits out)
    · exact takeRequest_setTrim waits (loadTrimBands_accepted carried fits fields)

end Sys2Proof.Machine
end

section
/-! SUPPORT. Changeover and Cancel Changeover case by case (R125, R126), and what the taking of a changeover leaves of the Cycle
Unit (R128). -/

namespace Sys2Proof.Machine

/-! ### The taking of a changeover (R128) -/

/-- Of the Cycle Unit, the taking of a changeover discards the record and sets the Hold Tower Set, at its first step. -/
theorem takeChangeover_cycle (a : ArmedChangeover) (s : State) :
    (takeChangeover a s).cycle
      = { s.cycle with armed := none, hold := tab fun u => (look (look s.jobs a.slot).job.towers u).enabled } := by
  let s1 := s.setCycle
    { s.cycle with armed := none, hold := tab fun u => (look (look s.jobs a.slot).job.towers u).enabled }
  have later : OnlyChanges [.jobs, .buffers, .engine, .motion, .trim, .notice] s1 (takeChangeover a s) :=
    .after (dispatchScan_frame _) (.after (beginPasses_frame _) (.after (changeoverTrim_frame _ _)
      (.after (evalRestricted_frame _) (.after (clearWatches_frame _ _) (.after (changeoverTargets_frame _)
        (.after (exchangeJobs_frame _ _) (.refl _ s1)))))))
  exact later.cycle

theorem takeArmed_of_armed {a : ArmedChangeover} {s : State} (h : s.cycle.armed = some a) :
    takeArmed s = takeChangeover a s := by
  simp [takeArmed, h]

/-! ### The arming and the disarming of a slot -/

/-- The state with slot `j` ARMED, its job kept, and the changeover recorded with its carry flag (R125). -/
def State.armSlot (s : State) (j : SlotIdx) (carry : Bool) : State :=
  (s.putJob j (.held .armed (look s.jobs j).job)).setCycle { s.cycle with armed := some ⟨j, carry⟩ }

/-- The state with slot `j` READY, its job kept, and no changeover recorded (R126). -/
def State.disarmSlot (s : State) (j : SlotIdx) : State :=
  (s.putJob j (.held .ready (look s.jobs j).job)).setCycle { s.cycle with armed := none }

theorem armSlot_frame (s : State) (j : SlotIdx) (carry : Bool) : OnlyChanges [.jobs, .cycle] s (s.armSlot j carry) :=
  .after (setCycle_frame _ _) (.after (putJob_frame s _ _) (.refl _ s))

theorem disarmSlot_frame (s : State) (j : SlotIdx) : OnlyChanges [.jobs, .cycle] s (s.disarmSlot j) :=
  .after (setCycle_frame _ _) (.after (putJob_frame s _ _) (.refl _ s))

@[simp] theorem armSlot_armed (s : State) (j : SlotIdx) (carry : Bool) :
    (s.armSlot j carry).cycle.armed = some ⟨j, carry⟩ := rfl

/-- A READY slot is armed with the job it holds. -/
theorem armSlot_of_ready {s : State} {j : SlotIdx} {job : Job} (h : look s.jobs j = .held .ready job) (carry : Bool) :
    s.armSlot j carry = (s.putJob j (.held .armed job)).setCycle { s.cycle with armed := some ⟨j, carry⟩ } := by
  rw [State.armSlot, h]
  rfl

/-- A READY slot is not RUNNING. -/
theorem JobSlot.not_running_of_ready {x : JobSlot} (ready : x.inRole .ready = true) : x.inRole .running = false := by
  obtain ⟨job, rfl⟩ := JobSlot.exists_held_of_inRole ready
  rfl

/-! ### The fields of the answer (R125) -/

/-- A flag byte is read as set exactly where it is 1. -/
theorem toNat_beq_one (b : Byte) : (b.toNat == 1) = (b == 1) := by
  rw [Bool.eq_iff_iff, beq_iff_eq, beq_iff_eq]
  exact BitVec.toNat_inj (y := 1)

/-- While a changeover stands armed, the answer carries its slot and that it was not taken. -/
theorem changeoverFields_armed {a : Byte} {s : State} {x : ArmedChangeover} (armed : s.cycle.armed = some x)
    (slot : a.toNat = x.slot.val) : changeoverFields false s = s.slotStates ++ [a, 0] := by
  simp [changeoverFields, armed, opt1, byte1, flagNum, ← slot]

/-- After a changeover is taken, the answer carries no armed slot and that it was taken. -/
theorem changeoverFields_taken {s : State} (armed : s.cycle.armed = none) :
    changeoverFields true s = s.slotStates ++ [0xFF, 1] := by
  simp [changeoverFields, armed, opt1, byte1, flagNum]

/-! ### The cases of the requests -/

section
variable {p : List Byte} {a b : Byte} {j : SlotIdx} {s : State}

theorem changeover_out_of_range (hp : p = [a, b]) (out : 2 ≤ a.toNat ∨ 2 ≤ b.toNat) :
    changeover p s = ⟨s, .range, changeoverFields false s⟩ := by
  subst hp
  cases slot : slotOf a.toNat with
  | none => simp [changeover, u8, slot]
  | some j =>
    have flag : 2 ≤ b.toNat := out.resolve_left fun large => by simp [slotOf_eq_none large] at slot
    simp [changeover, u8, slot, isFlag, flag.not_gt]

/-- With both fields in range, the conditions of R125 are judged in its order, and in IDLE the changeover just armed is taken. -/
theorem changeover_in_range (hp : p = [a, b]) (slot : a.toNat = j.val) (flag : b.toNat ≤ 1) :
    changeover p s =
      if (look s.jobs j).inRole .running then ⟨s, .state, changeoverFields false s⟩
      else if (look s.jobs j).inRole .ready = false then ⟨s, .notReady, changeoverFields false s⟩
      else if s.cycle.armed ≠ none then ⟨s, .busy, changeoverFields false s⟩
      else if s.cycle.phase = .idle then
        let t := takeChangeover ⟨j, b == 1⟩ (s.armSlot j (b == 1))
        ⟨t, .ok, changeoverFields true t⟩
      else ⟨s.armSlot j (b == 1), .ok, changeoverFields false (s.armSlot j (b == 1))⟩ := by
  subst hp
  rw [← takeArmed_of_armed (armSlot_armed s j (b == 1))]
  simp [changeover, u8, slot, isFlag, Nat.lt_succ_of_le flag, State.isRunning, Option.isSome_iff_ne_none, toNat_beq_one,
    State.armSlot]

theorem changeover_running (hp : p = [a, b]) (slot : a.toNat = j.val) (flag : b.toNat ≤ 1)
    (running : (look s.jobs j).inRole .running = true) : changeover p s = ⟨s, .state, changeoverFields false s⟩ := by
  simp [changeover_in_range hp slot flag, running]

theorem changeover_not_ready (hp : p = [a, b]) (slot : a.toNat = j.val) (flag : b.toNat ≤ 1)
    (stopped : (look s.jobs j).inRole .running = false) (unready : (look s.jobs j).inRole .ready = false) :
    changeover p s = ⟨s, .notReady, changeoverFields false s⟩ := by
  simp [changeover_in_range hp slot flag, stopped, unready]

theorem changeover_busy (hp : p = [a, b]) (slot : a.toNat = j.val) (flag : b.toNat ≤ 1)
    (ready : (look s.jobs j).inRole .ready = true) (armed : s.cycle.armed ≠ none) :
    changeover p s = ⟨s, .busy, changeoverFields false s⟩ := by
  simp [changeover_in_range hp slot flag, JobSlot.not_running_of_ready ready, ready, armed]

theorem changeover_armed (hp : p = [a, b]) (slot : a.toNat = j.val) (flag : b.toNat ≤ 1)
    (ready : (look s.jobs j).inRole .ready = true) (free : s.cycle.armed = none) (busy : s.cycle.phase ≠ .idle) :
    changeover p s = ⟨s.armSlot j (b == 1), .ok, (s.armSlot j (b == 1)).slotStates ++ [a, 0]⟩ := by
  rw [← changeoverFields_armed (armSlot_armed s j (b == 1)) slot]
  simp [changeover_in_range hp slot flag, JobSlot.not_running_of_ready ready, ready, free, busy]

theorem changeover_taken (hp : p = [a, b]) (slot : a.toNat = j.val) (flag : b.toNat ≤ 1)
    (ready : (look s.jobs j).inRole .ready = true) (free : s.cycle.armed = none) (idle : s.cycle.phase = .idle) :
    changeover p s = ⟨takeChangeover ⟨j, b == 1⟩ (s.armSlot j (b == 1)), .ok,
      (takeChangeover ⟨j, b == 1⟩ (s.armSlot j (b == 1))).slotStates ++ [0xFF, 1]⟩ := by
  rw [← changeoverFields_taken (by rw [takeChangeover_cycle])]
  simp [changeover_in_range hp slot flag, JobSlot.not_running_of_ready ready, ready, free, idle]

theorem cancelChangeover_unarmed (hp : p = []) (free : s.cycle.armed = none) :
    cancelChangeover p s = ⟨s, .state, s.slotStates⟩ := by
  subst hp
  simp [cancelChangeover, free]

theorem cancelChangeover_disarmed (hp : p = []) {x : ArmedChangeover} (armed : s.cycle.armed = some x) :
    cancelChangeover p s = ⟨s.disarmSlot x.slot, .ok, (s.disarmSlot x.slot).slotStates⟩ := by
  subst hp
  simp [cancelChangeover, armed, State.disarmSlot]
end

/-- A request whose handler accepts it and answers with both slot states as they are after it: they are those of the state that
the request's step leaves. -/
theorem takeRequest_slotStates {s t : State} {k : RequestKind} {f : Frame} {rest : List Frame} (h : Waits s k f rest)
    {g : List Byte → State → Reply} {bs : List Block} {back : List Byte}
    (hg : g f.payload (s.taken rest) = ⟨t, .ok, t.slotStates ++ back⟩) (frame : OnlyChanges bs (s.taken rest) t)
    (hl : Block.link ∉ bs := by decide) :
    Answered s f rest 0 ((takeRequest k g s).slotStates ++ back) (takeRequest k g s)
      ∧ OnlyChanges (.link :: bs) s (takeRequest k g s) ∧ OnlyChanges [.link] t (takeRequest k g s) := by
  obtain ⟨answered, changed, after⟩ := takeRequest_answered h g (by rw [hg]; exact frame) hl
  rw [hg] at answered after
  exact ⟨slotStates_congr after.jobs ▸ answered, changed, after⟩

end Sys2Proof.Machine
end

section
/-! PROOF. Sheet marks, press phase and changeover (chapter 7): Changeover and Cancel Changeover. -/

namespace Sys2Proof.Machine

/-- Settles O50: the handlers' cases in the order of R125 and R126, each taken through the step of its request; in IDLE the
state answered from is that of the changeover taken. -/
theorem changeoverArmsAndCancelDisarms : Obligations.ChangeoverArmsAndCancelDisarms := by
  unfold Obligations.ChangeoverArmsAndCancelDisarms
  intro states
  constructor
  · intro s f rest a b waits payload armed
    have fields : changeoverFields false (s.taken rest) = states s ++ armed ++ [0] := by
      unfold armed changeoverFields
      rw [taken_cycle]
      cases s.cycle.armed <;> rfl
    refine ⟨takeRequest .changeover changeover s, rfl, fun out => ?_, fun j slot flag => ⟨fun running => ?_,
      fun stopped unready => ?_, fun ready pending => ?_, fun job held free => ?_⟩⟩
    · exact takeRequest_refused waits (fields ▸ changeover_out_of_range payload out)
    · exact takeRequest_refused waits (fields ▸ changeover_running (s := s.taken rest) payload slot flag running)
    · exact takeRequest_refused waits (fields ▸ changeover_not_ready (s := s.taken rest) payload slot flag stopped unready)
    · exact takeRequest_refused waits (fields ▸ changeover_busy (s := s.taken rest) payload slot flag ready pending)
    · have ready : (look s.jobs j).inRole .ready = true := by rw [held]; rfl
      have arms := armSlot_of_ready (s := s.taken rest) held (b == 1)
      have frame := armSlot_frame (s.taken rest) j (b == 1)
      refine ⟨fun busy => ?_, fun idle => ?_⟩
      · obtain ⟨answered, -, after⟩ := takeRequest_slotStates waits
          (changeover_armed (s := s.taken rest) payload slot flag ready free busy) frame
        exact ⟨answered, arms ▸ after⟩
      · obtain ⟨answered, -, after⟩ := takeRequest_slotStates waits
          (changeover_taken (s := s.taken rest) payload slot flag ready free idle) (frame.comp (takeChangeover_frame _ _))
        exact ⟨answered, arms ▸ after⟩
  · intro s f rest waits payload
    refine ⟨takeRequest .cancelChangeover cancelChangeover s, rfl, fun free => ?_, fun x armed => ?_⟩
    · exact takeRequest_refused waits (cancelChangeover_unarmed (s := s.taken rest) payload free)
    · obtain ⟨answered, frame, after⟩ := takeRequest_slotStates (back := []) waits
        (cancelChangeover_disarmed (s := s.taken rest) payload armed) (disarmSlot_frame _ _)
      exact ⟨answered, frame.mono (by decide), after.cycle, after.jobs⟩

end Sys2Proof.Machine
end

section
/-! SUPPORT. Set Notice Control and Clear Pending case by case (R139, R140), and the set of kinds that their answers carry. -/

namespace Sys2Proof.Machine

/-! ### The kinds with a record -/

theorem pendingKinds_congr {s t : State} (h : t.notice = s.notice) : t.pendingKinds = s.pendingKinds := by
  rw [State.pendingKinds, h, State.pendingKinds]

theorem pendingKinds_lt (s : State) : s.pendingKinds < 256 := setNum_lt (n := 8) _

theorem pendingKinds_testBit (s : State) (k : Fin 8) : s.pendingKinds.testBit k.val = (look s.notice.records k).isSome := by
  rw [State.pendingKinds, setNum_testBit, look_tab]

/-- A request whose handler accepts it with the Notice Unit's block written, and whose answer ends in the kinds with a record:
they are those of the state that the request's step leaves. -/
theorem takeRequest_setNotice {s : State} {k : RequestKind} {f : Frame} {rest : List Frame} (h : Waits s k f rest)
    {g : List Byte → State → Reply} {x : NoticeUnit} {front : List Byte}
    (hg : g f.payload (s.taken rest)
      = ⟨(s.taken rest).setNotice x, .ok, front ++ byte1 ((s.taken rest).setNotice x).pendingKinds⟩) :
    Answered s f rest 0 (front ++ byte1 (takeRequest k g s).pendingKinds) (takeRequest k g s)
      ∧ OnlyChanges [.notice, .link] s (takeRequest k g s) ∧ (takeRequest k g s).notice = x := by
  obtain ⟨answered, frame, after⟩ := takeRequest_answered h g (bs := [.notice])
    (by rw [hg]; exact setNotice_frame _ x) (by decide)
  rw [hg] at answered after
  exact ⟨pendingKinds_congr after.notice ▸ answered, frame.mono (by decide), after.notice⟩

/-! ### The fields of a Set Notice Control (R160) -/

theorem u8_finRange_bytes {n : Nat} (g : Fin n → Nat) (back : List Byte) (k : Fin n) (h : g k < 256) :
    u8 ((List.finRange n).flatMap (fun i => byte1 (g i)) ++ back) k.val = g k := by
  have single : (List.finRange n).flatMap (fun i => byte1 (g i)) = (List.finRange n).map fun i => BitVec.ofNat 8 (g i) :=
    List.flatMap_pure_eq_map _ _
  rw [u8, single, List.getD_append _ _ _ _ (by simp)]
  simp [Nat.mod_eq_of_lt h]

/-- The number of the set that a byte carries is the byte. -/
theorem setNum_bits (b : Byte) : setNum (tab fun k : Fin 8 => b.getLsbD k.val) = b.toNat := by
  have bits : look (tab fun k : Fin 8 => b.getLsbD k.val) = fun k => b.toNat.testBit k.val := funext fun k => look_tab _ k
  rw [setNum_eq_ofBits, bits, Nat.ofBits_testBit, Nat.mod_eq_of_lt b.isLt]

theorem flagNum_beq_one {b : Byte} (flag : b.toNat ≤ 1) : flagNum (b == 1) = b.toNat := by
  rw [← toNat_beq_one]
  obtain zero | one : b.toNat = 0 ∨ b.toNat = 1 := by omega
  · rw [zero]
    rfl
  · rw [one]
    rfl

/-- The payload of a Set Notice Control carries the priority of each kind, the enable set and Notices Off (R139, R160). -/
structure CarriesControls (p : List Byte) (priority : Fin 8 → Nat) (enable off : Byte) : Prop where
  length : p.length = 10
  bytes : (allKinds.flatMap fun k => byte1 (priority k)) ++ [enable, off] = p
  priority : ∀ k : Fin 8, u8 p k.val = priority k
  enable : u8 p 8 = enable.toNat
  off : u8 p 9 = off.toNat

/-- The field check of R139. -/
def controlsInRange (priority : Fin 8 → Nat) (off : Byte) : Prop :=
  (∀ k, 1 ≤ priority k ∧ priority k ≤ 5) ∧ off.toNat ≤ 1

/-- The Notice Unit with its three controls replaced (R139). -/
def NoticeUnit.withControls (x : NoticeUnit) (priority : Fin 8 → Nat) (enable off : Byte) : NoticeUnit :=
  { x with priorities := tab priority, enabled := tab fun k => enable.getLsbD k.val, off := off == 1 }

section
variable {p : List Byte} {priority : Fin 8 → Nat} {enable off : Byte} {s : State}

theorem carriesControls_of_payload (fits : ∀ k, priority k < 256)
    (hp : p = (List.finRange 8).flatMap (fun k => byte1 (priority k)) ++ [enable, off]) :
    CarriesControls p priority enable off := by
  subst hp
  constructor
  case length => rfl
  case bytes => rfl
  case priority => exact fun k => u8_finRange_bytes priority _ k (fits k)
  case enable => rfl
  case off => rfl

/-- The controls now in force are answered as the request gave them. -/
theorem withControls_controlBytes (h : CarriesControls p priority enable off) (flag : off.toNat ≤ 1) :
    (s.setNotice (s.notice.withControls priority enable off)).controlBytes = p := by
  simp only [State.controlBytes, setNotice_notice, NoticeUnit.withControls, look_tab, setNum_bits, flagNum_beq_one flag]
  rw [← h.bytes]
  simp [byte1]

/-! ### The cases of a Set Notice Control (R139) -/

theorem controlOk_iff (h : CarriesControls p priority enable off) : controlOk p = true ↔ controlsInRange priority off := by
  simp [controlOk, controlsInRange, allKinds, isFlag, h.priority, h.off]

theorem setNoticeControl_out_of_range (h : CarriesControls p priority enable off) (out : ¬ controlsInRange priority off) :
    setNoticeControl p s = ⟨s, .range, []⟩ := by
  rw [setNoticeControl, if_neg (not_not.2 h.length), if_neg (mt (controlOk_iff h).1 out)]
  rfl

theorem setNoticeControl_accepted (h : CarriesControls p priority enable off) (fields : controlsInRange priority off) :
    setNoticeControl p s = ⟨s.setNotice (s.notice.withControls priority enable off), .ok,
      p ++ byte1 (s.setNotice (s.notice.withControls priority enable off)).pendingKinds⟩ := by
  have written : (⟨s.notice.records, tab fun k => u8 p k.val, tab fun k => (u8 p 8).testBit k.val, u8 p 9 == 1⟩ : NoticeUnit)
      = s.notice.withControls priority enable off := by
    simp only [h.priority, h.enable, h.off, toNat_beq_one]
    rfl
  have bytes := withControls_controlBytes (s := s) h fields.2
  simp only [setNoticeControl, h.length, (controlOk_iff h).2 fields, written, bytes, ne_eq, not_true, if_true, if_false]
end

/-! ### The kinds a Clear Pending names (R140) -/

theorem kindsNamed_eq_none {n : Nat} (other : n ≠ 255) (out : 8 ≤ n) : kindsNamed n = none := by
  simp [kindsNamed, other, out.not_gt]

/-- A kind number names its kind, ALL names every kind. -/
theorem kindsNamed_eq_some {n : Nat} (h : n < 8 ∨ n = 255) :
    kindsNamed n = some (allKinds.filter fun k => n == 255 || n == k.val) := by
  by_cases all : n = 255
  · simp [kindsNamed, all]
  · have single : ∀ i : Fin 8, [i] = allKinds.filter fun k => i.val == k.val := by decide
    have lt : n < 8 := h.resolve_right all
    rw [kindsNamed, if_neg all, dif_pos lt, single, beq_eq_false_iff_ne.2 all]
    simp

/-! ### The cases of a Clear Pending (R140) -/

/-- The Notice Unit without the records of some kinds (R140). -/
def NoticeUnit.cleared (x : NoticeUnit) (ks : List (Fin 8)) : NoticeUnit :=
  { x with records := tab fun k => if k ∈ ks then none else look x.records k }

section
variable {p : List Byte} {a : Byte} {s : State}

theorem clearPending_out_of_range (hp : p = [a]) (other : a ≠ 0xFF) (out : 8 ≤ a.toNat) :
    clearPending p s = ⟨s, .range, []⟩ := by
  have unnamed : kindsNamed a.toNat = none := kindsNamed_eq_none (fun all => other (BitVec.eq_of_toNat_eq all)) out
  subst hp
  simp [clearPending, Reply.bare, u8, unnamed]

theorem clearPending_accepted (hp : p = [a]) {ks : List (Fin 8)} (named : kindsNamed a.toNat = some ks) :
    clearPending p s = ⟨s.setNotice (s.notice.cleared ks), .ok,
      byte1 (ks.filter fun k => (look s.notice.records k).isSome).length
        ++ byte1 (s.setNotice (s.notice.cleared ks)).pendingKinds⟩ := by
  subst hp
  simp [clearPending, NoticeUnit.cleared, u8, named]
end

end Sys2Proof.Machine
end

section
/-! PROOF. Notices (chapter 8): Set Notice Control and Clear Pending. -/

namespace Sys2Proof.Machine

/-- Settles O53: each handler refuses or writes the Notice Unit, and both cases are taken through the step of the request. -/
theorem noticeControlsAndRecordsAreWritten : Obligations.NoticeControlsAndRecordsAreWritten := by
  unfold Obligations.NoticeControlsAndRecordsAreWritten
  intro kinds
  have answeredKinds (t : State) : kinds t t.pendingKinds := ⟨pendingKinds_lt t, pendingKinds_testBit t⟩
  constructor
  · intro s f rest priority enable off waits fits payload inRange
    have carried := carriesControls_of_payload fits payload
    refine ⟨takeRequest .setNoticeControl setNoticeControl s, rfl, fun out => ?_, fun fields => ?_⟩
    · exact takeRequest_refused waits (setNoticeControl_out_of_range carried out)
    · obtain ⟨answered, frame, notice⟩ := takeRequest_setNotice waits (setNoticeControl_accepted carried fields)
      exact ⟨frame, notice, _, answeredKinds _, answered⟩
  · intro s f rest a waits payload
    have all : a.toNat = 255 ↔ a = 0xFF := BitVec.toNat_inj (y := 0xFF)
    refine ⟨takeRequest .clearPending clearPending s, rfl, fun ⟨out, other⟩ => ?_, fun kind => ?_⟩
    · exact takeRequest_refused waits (clearPending_out_of_range payload other out)
    · have named := kindsNamed_eq_some (kind.imp_right all.2)
      obtain ⟨answered, frame, notice⟩ := takeRequest_setNotice waits (clearPending_accepted payload named)
      refine ⟨frame, ?_, fun k => ?_, _, answeredKinds _, ?_⟩
      · rw [notice]
        rfl
      · simp [notice, NoticeUnit.cleared, allKinds, all]
      · have whole : (a.toNat == 255) = (a == 0xFF) := by rw [Bool.eq_iff_iff, beq_iff_eq, beq_iff_eq, all]
        simpa only [allKinds, List.filter_filter, whole, Bool.and_comm, taken_notice] using answered

end Sys2Proof.Machine
end

section
/-! SUPPORT. Frames at arrival (R143, R144): which runs of bytes are discarded, the frame that any other is, and what a port makes
of the one and of the other. -/

namespace Sys2Proof.Machine

/-! ### The tests at arrival (R144) -/

/-- A run of bytes that is short, mis-sized or fails its check. -/
def Damaged (bytes : List Byte) : Prop :=
  bytes.length < 6
    ∨ 240 < (bytes.getD 3 0).toNat ∨ bytes.length ≠ (bytes.getD 3 0).toNat + 6
    ∨ bytes.drop (bytes.length - 2) ≠ checkBytes (bytes.take (bytes.length - 2))

/-- The frame whose fields stand in a run of bytes (R143). -/
def frameOf (bytes : List Byte) : Frame :=
  ⟨bytes.getD 0 0, bytes.getD 1 0, bytes.getD 2 0, (bytes.drop 4).take (bytes.length - 6)⟩

theorem parseFrame_of_short {bytes : List Byte} (short : bytes.length < 6) : parseFrame bytes = none := by
  unfold parseFrame
  split
  · exact if_pos short
  · rfl

/-- A run of six bytes or more begins with a header. -/
theorem exists_header {bytes : List Byte} (long : 6 ≤ bytes.length) :
    ∃ dst src kind len rest, bytes = dst :: src :: kind :: len :: rest := by
  match bytes, long with
  | dst :: src :: kind :: len :: rest, _ => exact ⟨dst, src, kind, len, rest, rfl⟩

theorem parseFrame_of_missized {bytes : List Byte} (long : 6 ≤ bytes.length)
    (size : 240 < (bytes.getD 3 0).toNat ∨ bytes.length ≠ (bytes.getD 3 0).toNat + 6) : parseFrame bytes = none := by
  obtain ⟨dst, src, kind, len, rest, rfl⟩ := exists_header long
  exact (if_neg long.not_gt).trans (if_pos size)

/-- Of a run of the right size the check decides: the check bytes are the last two, and the payload lies before them. -/
theorem parseFrame_of_sized {bytes : List Byte} (fits : (bytes.getD 3 0).toNat ≤ 240)
    (size : bytes.length = (bytes.getD 3 0).toNat + 6) :
    parseFrame bytes = if checkBytes (bytes.take (bytes.length - 2)) ≠ bytes.drop (bytes.length - 2) then none
      else some (frameOf bytes) := by
  have long : 6 ≤ bytes.length := by omega
  have body : 4 + (bytes.getD 3 0).toNat = bytes.length - 2 := by omega
  have payload : (bytes.getD 3 0).toNat = bytes.length - 6 := by omega
  have sized : ¬ (240 < (bytes.getD 3 0).toNat ∨ bytes.length ≠ (bytes.getD 3 0).toNat + 6) := by omega
  rw [← body, frameOf, ← payload]
  obtain ⟨dst, src, kind, len, rest, rfl⟩ := exists_header long
  exact (if_neg long.not_gt).trans (if_neg sized)

theorem parseFrame_of_damaged {bytes : List Byte} (damaged : Damaged bytes) : parseFrame bytes = none := by
  by_cases short : bytes.length < 6
  · exact parseFrame_of_short short
  by_cases size : 240 < (bytes.getD 3 0).toNat ∨ bytes.length ≠ (bytes.getD 3 0).toNat + 6
  · exact parseFrame_of_missized (by omega) size
  · have check : bytes.drop (bytes.length - 2) ≠ checkBytes (bytes.take (bytes.length - 2)) := by
      simpa only [Damaged, short, ← or_assoc, size, false_or] using damaged
    rw [parseFrame_of_sized (by omega) (by omega), if_pos check.symm]

theorem parseFrame_of_not_damaged {bytes : List Byte} (good : ¬ Damaged bytes) :
    parseFrame bytes = some (frameOf bytes) := by
  simp only [Damaged, not_or, not_lt, ne_eq, not_not] at good
  obtain ⟨-, fits, size, check⟩ := good
  rw [parseFrame_of_sized fits size, if_neg (not_not.2 check.symm)]

/-! ### The bytes of a frame (R143) -/

theorem Frame.length_bytes (f : Frame) : f.bytes.length = f.payload.length + 6 := by
  simp [Frame.bytes, Frame.body, checkBytes, byte2]

/-- The two check bytes of a frame stand behind its body. -/
theorem Frame.length_bytes_sub_two (f : Frame) : f.bytes.length - 2 = f.body.length := by
  simp [f.length_bytes, Frame.body]

theorem Frame.frameOf_bytes (f : Frame) : frameOf f.bytes = f := by
  rw [frameOf, f.length_bytes]
  simp [Frame.bytes, Frame.body]

theorem Frame.not_damaged_bytes {f : Frame} (fits : f.payload.length ≤ 240) : ¬ Damaged f.bytes := by
  have count : (f.bytes.getD 3 0).toNat = f.payload.length :=
    Nat.mod_eq_of_lt (show f.payload.length < 256 by omega)
  have check : f.bytes.drop (f.bytes.length - 2) = checkBytes (f.bytes.take (f.bytes.length - 2)) := by
    rw [f.length_bytes_sub_two, Frame.bytes, List.drop_left, List.take_left]
  rintro (short | long | size | bad)
  · rw [f.length_bytes] at short
    omega
  · omega
  · exact size (count ▸ f.length_bytes)
  · exact bad check

theorem parseFrame_bytes {f : Frame} (fits : f.payload.length ≤ 240) : parseFrame f.bytes = some f :=
  (parseFrame_of_not_damaged (Frame.not_damaged_bytes fits)).trans (congrArg some f.frameOf_bytes)

/-! ### What a port makes of a run of bytes -/

section
variable {s : State} {bytes : List Byte}

theorem receive_discarded (free : s.link.resetHeld = false) (damaged : parseFrame bytes = none) (p : Port)
    (route : Frame → State → State) : receive p route bytes s = raise .linkError none (.port p) s := by
  simp [receive, free, damaged]

theorem receive_routed (free : s.link.resetHeld = false) {f : Frame} (good : parseFrame bytes = some f) (p : Port)
    (route : Frame → State → State) : receive p route bytes s = route f s := by
  simp [receive, free, good]

end

/-- While RESET is not held, a whole frame on Port D is routed by R147. -/
theorem exec_portDFrameReceived_bytes {s : State} {f : Frame} (free : s.link.resetHeld = false)
    (fits : f.payload.length ≤ 240) : exec (.portDFrameReceived f.bytes) s = .next (routeD f s) :=
  congrArg Host.Outcome.next (receive_routed free (parseFrame_bytes fits) .d routeD)

/-- While RESET is not held, a whole frame on Port M is routed by R148. -/
theorem exec_portMFrameReceived_bytes {s : State} {f : Frame} (free : s.link.resetHeld = false)
    (fits : f.payload.length ≤ 240) : exec (.portMFrameReceived f.bytes) s = .next (routeM f s) :=
  congrArg Host.Outcome.next (receive_routed free (parseFrame_bytes fits) .m routeM)

end Sys2Proof.Machine
end

section
/-! SUPPORT. Routing on Ports D and M case by case (R147, R148, R149). -/

namespace Sys2Proof.Machine

/-! ### Addresses (R145) -/

theorem towerOfAddress_eq_some {a : Byte} {u : TowerIdx} (h : a.toNat = 0x10 + u.val) : towerOfAddress a = some u := by
  simp [towerOfAddress, Config.towerBase, h]

theorem towerOfAddress_eq_none {a : Byte} (h : a.toNat < 0x10 ∨ 0x1B < a.toNat) : towerOfAddress a = none := by
  unfold towerOfAddress Config.towerBase
  split
  · exact dif_neg (by omega)
  · rfl

theorem Frame.isBroadcast_iff (f : Frame) : f.isBroadcast = true ↔ f.dst = 0x38 := beq_iff_eq

/-! ### Placing in a queue (R149) -/

section
variable {s : State}

theorem placeUp_room (f : Frame) (room : s.link.upForward.length < 16) :
    placeUp f s = s.setLink { s.link with upForward := s.link.upForward ++ [f] } := if_pos room

theorem placeUp_full (f : Frame) (full : 16 ≤ s.link.upForward.length) :
    placeUp f s = raise .overrun none (.queue .d .upForward) s := if_neg full.not_gt

theorem placeDensity_room (f : Frame) (room : s.link.mReceive.length < 4) :
    placeDensity f s = s.setLink { s.link with mReceive := s.link.mReceive ++ [(f, s.cycle.sheetCount)] } := if_pos room

theorem placeDensity_full (f : Frame) (full : 4 ≤ s.link.mReceive.length) :
    placeDensity f s = raise .overrun none (.queue .m .mReceive) s := if_neg full.not_gt

end

/-! ### The cases of R147 -/

section
variable {s : State} {f : Frame}

theorem routeD_keyReport {u : TowerIdx} (kind : f.kind = 0x48) (source : f.src.toNat = 0x10 + u.val) (s : State) :
    routeD f s = takeKeyReport u f.payload s := by
  simp [routeD, kindKeyReport, kind, towerOfAddress_eq_some source]

theorem takeKeyReport_of_length_ne (u : TowerIdx) {p : List Byte} (length : p.length ≠ 5) (s : State) :
    takeKeyReport u p s = s := if_neg length

/-- A frame that is no Key Report of a Tower Drive Module is routed by its destination alone. -/
theorem routeD_other (other : f.kind ≠ 0x48 ∨ f.src.toNat < 0x10 ∨ 0x1B < f.src.toNat) :
    routeD f s = if f.dst = s.link.ownAddress ∨ f.isBroadcast then s else placeUp f s := by
  have unreported : (if f.kind = kindKeyReport then towerOfAddress f.src else none) = none := by
    rcases other with kind | source
    · exact if_neg kind
    · rw [towerOfAddress_eq_none source, ite_self]
  simp only [routeD, unreported]

theorem routeD_discarded (other : f.kind ≠ 0x48 ∨ f.src.toNat < 0x10 ∨ 0x1B < f.src.toNat)
    (own : f.dst = s.link.ownAddress ∨ f.dst = 0x38) : routeD f s = s := by
  rw [routeD_other other, if_pos (own.imp_right f.isBroadcast_iff.2)]

theorem routeD_forwarded (other : f.kind ≠ 0x48 ∨ f.src.toNat < 0x10 ∨ 0x1B < f.src.toNat)
    (own : f.dst ≠ s.link.ownAddress) (broadcast : f.dst ≠ 0x38) : routeD f s = placeUp f s := by
  rw [routeD_other other, if_neg (not_or.2 ⟨own, mt f.isBroadcast_iff.1 broadcast⟩)]

/-! ### The cases of R148 -/

theorem routeM_density (kind : f.kind = 0x50) (s : State) : routeM f s = placeDensity f s := if_pos kind

theorem routeM_other (kind : f.kind ≠ 0x50) (s : State) : routeM f s = s := if_neg kind

end

end Sys2Proof.Machine
end

section
/-! SUPPORT. Read Tower case by case (R156). -/

namespace Sys2Proof.Machine

/-- The ten bytes of a tower's entry as R156 and R160 list them. -/
def State.towerEntry (s : State) (u : TowerIdx) : List Byte :=
  byte1 u.val ++ byte1 (s.record 0 u).strip.num ++ byte1 (s.record 1 u).strip.num
    ++ [if (s.pass u).state = .active then 1 else 0] ++ byte1 (s.pass u).cursor
    ++ byte1 (look s.motion.inFlight u)
    ++ byte1 (if s.motion.restricted then 1 else look s.motion.concurrency u)
    ++ (match (s.pass u).sweep with
        | some v => byte2 v
        | none => [0xFF, 0xFF])
    ++ byte1 ((if look s.trim.armed u then 1 else 0) + (if look s.trim.saturated u then 2 else 0))

theorem byte1_passState (x : PassState) : byte1 x.num = [if x = .active then 1 else 0] := by
  cases x <;> rfl

theorem two_mul_flagNum (b : Bool) : 2 * flagNum b = if b then 2 else 0 := by
  cases b <;> rfl

/-- The entry of the model is the one that the rule lists, field by field. -/
theorem towerReport_eq_towerEntry (s : State) (u : TowerIdx) : s.towerReport u = s.towerEntry u := by
  simp only [State.towerReport, State.towerEntry, byte1_passState, two_mul_flagNum]
  cases (s.pass u).sweep <;> rfl

theorem towerEntry_taken (s : State) (rest : List Frame) (u : TowerIdx) : (s.taken rest).towerEntry u = s.towerEntry u := rfl

section
variable {p : List Byte} {n : Byte}

theorem readTower_named (hp : p = [n]) {u : TowerIdx} (hn : n.toNat = u.val) (s : State) :
    readTower p s = (.ok, [1] ++ s.towerEntry u) := by
  subst hp
  have single : u.val ≠ 0xFF := by omega
  simp [readTower, u8, hn, single, towerReport_eq_towerEntry, byte1]

theorem readTower_all (hp : p = [0xFF]) (s : State) :
    readTower p s = (.ok, [12] ++ allTowers.flatMap s.towerEntry) := by
  subst hp
  simp [readTower, u8, towerReport_eq_towerEntry, byte1]

theorem readTower_out_of_range (hp : p = [n]) (out : 12 ≤ n.toNat) (other : n ≠ 0xFF) (s : State) :
    readTower p s = (.range, []) := by
  have unnamed : towerOf n.toNat = none := dif_neg out.not_gt
  have single : n.toNat ≠ 0xFF := fun all => other (BitVec.eq_of_toNat_eq all)
  subst hp
  simp [readTower, u8, unnamed, single]

end

/-- A read request is answered with the code and the fields that its handler gives. -/
theorem takeRead_answered_with {s : State} {k : RequestKind} {f : Frame} {rest : List Frame} (h : Waits s k f rest)
    {g : List Byte → State → ResultCode × List Byte} {code : ResultCode} {fields : List Byte}
    (hg : g f.payload (s.taken rest) = (code, fields)) : Answered s f rest code.num fields (takeRead k g s) := by
  simpa only [hg] using (takeRead_answered h g).1

end Sys2Proof.Machine
end

section
/-! PROOF. The Zone Link (chapter 9): frames at arrival, routing on Ports D and M, Read Tower. -/

namespace Sys2Proof.Machine

/-- Settles O4: the tests of R144 decide what parsing gives, and a port discards or routes accordingly. -/
theorem damagedFramesAreDiscarded : Obligations.DamagedFramesAreDiscarded := by
  unfold Obligations.DamagedFramesAreDiscarded
  intro s bytes free
  constructor
  · intro damaged
    have discarded := receive_discarded free (parseFrame_of_damaged damaged)
    exact ⟨congrArg _ (discarded .u routeU), congrArg _ (discarded .d routeD), congrArg _ (discarded .m routeM)⟩
  · intro good
    have routed := receive_routed free (parseFrame_of_not_damaged good)
    exact ⟨congrArg _ (routed .u routeU), congrArg _ (routed .d routeD), congrArg _ (routed .m routeM)⟩

/-- Settles O6: the frame reads back from its bytes, and R147 is followed case by case. -/
theorem portDRoutesByKindAndDestination : Obligations.PortDRoutesByKindAndDestination := by
  unfold Obligations.PortDRoutesByKindAndDestination
  intro s f free fits
  rw [exec_portDFrameReceived_bytes free fits]
  refine ⟨fun u kind source => ?_, fun other => ⟨fun own => ?_, fun own broadcast room => ?_, fun own broadcast full => ?_⟩⟩
  · rw [routeD_keyReport kind source]
    exact ⟨fun _ => rfl, fun length => by rw [takeKeyReport_of_length_ne u length]⟩
  · rw [routeD_discarded other own]
  · rw [routeD_forwarded other own broadcast, placeUp_room f room]
  · rw [routeD_forwarded other own broadcast, placeUp_full f full]

/-- Settles O7: the frame reads back from its bytes, and R148 is followed case by case. -/
theorem portMQueuesDensityFrames : Obligations.PortMQueuesDensityFrames := by
  unfold Obligations.PortMQueuesDensityFrames
  intro s f free fits
  rw [exec_portMFrameReceived_bytes free fits]
  refine ⟨fun other => ?_, fun kind room => ?_, fun kind full => ?_⟩
  · rw [routeM_other other]
  · rw [routeM_density kind, placeDensity_room f room]
  · rw [routeM_density kind, placeDensity_full f full]

/-- Settles O14: the handler's three cases, each taken through the step of the request. -/
theorem readTowerReportsItsEntries : Obligations.ReadTowerReportsItsEntries := by
  unfold Obligations.ReadTowerReportsItsEntries
  intro s f rest n waits payload entry
  refine ⟨takeRead .readTower readTower s, rfl, (takeRead_answered waits readTower).2, fun u named => ?_, fun all => ?_,
    fun out other => ?_⟩
  · exact takeRead_answered_with waits (readTower_named payload named (s.taken rest))
  · exact takeRead_answered_with waits (readTower_all (all ▸ payload) (s.taken rest))
  · exact takeRead_answered_with waits (readTower_out_of_range payload out other (s.taken rest))

end Sys2Proof.Machine
end

section
/-! SUPPORT. What one command can change: the frame of every row of the opcode table, and a step taken as the effect of a command or
one millisecond. -/

set_option Elab.async false

namespace Sys2Proof.Machine

/-! ### Requests, whether one waits or not -/

/-- A request command has no effect, or takes the request that waits. -/
theorem takeRequest_cases (k : RequestKind) (g : List Byte → State → Reply) (s : State) :
    takeRequest k g s = s ∨ ∃ f rest, Waits s k f rest
      ∧ takeRequest k g s = answer f (g f.payload (s.taken rest)).code (g f.payload (s.taken rest)).fields
          (g f.payload (s.taken rest)).state := by
  by_cases h : ∃ f rest, Waits s k f rest
  · obtain ⟨f, rest, waits⟩ := h
    exact .inr ⟨f, rest, waits, takeRequest_of_waits waits g⟩
  · exact .inl (takeRequest_of_not_waits (fun f rest waits => h ⟨f, rest, waits⟩) g)

theorem takeRead_cases (k : RequestKind) (g : List Byte → State → ResultCode × List Byte) (s : State) :
    takeRead k g s = s ∨ ∃ f rest, Waits s k f rest
      ∧ takeRead k g s = answer f (g f.payload (s.taken rest)).1 (g f.payload (s.taken rest)).2 (s.taken rest) := by
  by_cases h : ∃ f rest, Waits s k f rest
  · obtain ⟨f, rest, waits⟩ := h
    exact .inr ⟨f, rest, waits, takeRead_of_waits waits g⟩
  · exact .inl (takeRead_of_not_waits (fun f rest waits => h ⟨f, rest, waits⟩) g)

/-- A request changes no block but those its handler may, and the Link Controller. -/
theorem takeRequest_frame {k : RequestKind} {g : List Byte → State → Reply} {bs : List Block}
    (hg : ∀ p s, OnlyChanges bs s (g p s).state) (s : State) : OnlyChanges (.link :: bs) s (takeRequest k g s) := by
  obtain idle | ⟨f, rest, -, taken⟩ := takeRequest_cases k g s
  · exact .of_eq idle
  · rw [taken]
    exact ((taken_frame s rest).mono (by simp)).trans
      (((hg _ _).mono (by simp)).trans ((answer_frame _ _ _ _).mono (by simp)))

theorem takeRead_frame (k : RequestKind) (g : List Byte → State → ResultCode × List Byte) (s : State) :
    OnlyChanges [.link] s (takeRead k g s) := by
  obtain idle | ⟨f, rest, -, taken⟩ := takeRead_cases k g s
  · exact .of_eq idle
  · rw [taken]
    exact (taken_frame s rest).trans (answer_frame _ _ _ _)

/-! ### Resets -/

theorem bridgeReset_frame (p s) :
    OnlyChanges [.jobs, .buffers, .engine, .motion, .trim, .cycle, .notice, .link] s (bridgeReset p s).state := by
  unfold bridgeReset
  split
  · exact .refl _ s
  · exact onlyChanges_of_blocks (.inr rfl) (.inl (by simp)) (.inl (by simp)) (.inl (by simp)) (.inl (by simp))
      (.inl (by simp)) (.inl (by simp)) (.inl (by simp)) (.inl (by simp)) (.inr rfl) (.inr rfl) (.inr rfl)

theorem powerOnReset_frame (s) :
    OnlyChanges [.library, .jobs, .buffers, .engine, .motion, .trim, .cycle, .notice, .link, .clock] s (powerOnReset s) :=
  onlyChanges_of_blocks (.inl (by simp)) (.inl (by simp)) (.inl (by simp)) (.inl (by simp)) (.inl (by simp))
    (.inl (by simp)) (.inl (by simp)) (.inl (by simp)) (.inl (by simp)) (.inl (by simp)) (.inr rfl) (.inr rfl)

theorem resetRelease_frame (straps s) : OnlyChanges [.link] s (resetRelease straps s) := by
  unfold resetRelease
  exact .ite (setLink_frame s _) (.refl _ s)

/-! ### Every command -/

end Sys2Proof.Machine

namespace Sys2Proof

/-- The blocks that a command may change. -/
def Instr.changes : Instr → List Machine.Block
  | .loadCurve => [.link, .library, .jobs]
  | .eraseCurve => [.link, .library, .jobs]
  | .readCurve => [.link]
  | .setJobLabel => [.link, .jobs]
  | .configureTower => [.link, .jobs, .engine, .motion, .trim, .cycle, .notice]
  | .setTargets => [.link, .jobs, .engine, .motion, .trim, .notice]
  | .loadZoneMap => [.link, .jobs]
  | .setOffsets => [.link, .jobs, .engine, .motion, .trim, .notice]
  | .clearJob => [.link, .jobs, .buffers]
  | .readSettings => [.link]
  | .stripOpen => [.link, .jobs, .buffers]
  | .stripSegment => [.link, .jobs, .buffers]
  | .stripClose => [.link, .jobs, .buffers, .engine]
  | .zoneComputation _ => [.engine, .motion, .trim, .cycle, .notice, .freeCount]
  | .setMotionLimits => [.link, .motion, .trim, .notice]
  | .clearKeyFault => [.link, .motion, .trim, .notice]
  | .moveTimeout _ _ => [.motion, .trim, .notice, .clock]
  | .densityFrameTaken => [.engine, .motion, .trim, .notice, .link]
  | .armTrim => [.link, .trim]
  | .clearTrim => [.link, .engine, .motion, .trim, .notice]
  | .loadTrimBands => [.link, .trim]
  | .pressPhase => [.link, .jobs, .buffers, .engine, .motion, .trim, .cycle, .notice]
  | .changeover => [.link, .jobs, .buffers, .engine, .motion, .trim, .cycle, .notice]
  | .cancelChangeover => [.link, .jobs, .cycle]
  | .sheetMark => [.jobs, .buffers, .engine, .motion, .trim, .cycle, .notice]
  | .setNoticeControl => [.link, .notice]
  | .clearPending => [.link, .notice]
  | .readZone => [.link]
  | .readTower => [.link]
  | .readStatus => [.link]
  | .bridgeReset => [.link, .jobs, .buffers, .engine, .motion, .trim, .cycle, .notice]
  | .unknownRequestKind => [.link]
  | .portUFrameReceived _ => [.notice, .link]
  | .portDFrameReceived _ => [.motion, .trim, .notice, .link]
  | .portMFrameReceived _ => [.notice, .link]
  | .portUTransmitArbiter => [.notice, .link]
  | .portDTransmitArbiter => [.motion, .link]
  | .powerOnReset => [.library, .jobs, .buffers, .engine, .motion, .trim, .cycle, .notice, .link, .clock]
  | .resetRelease _ => [.link]

end Sys2Proof

namespace Sys2Proof.Machine

/-- Every command changes no block but those listed for it. -/
theorem exec_frame {c : Instr} {s t : State} (h : exec c s = .next t) : OnlyChanges c.changes s t := by
  cases c <;> cases h
  case loadCurve => exact takeRequest_frame loadCurve_frame s
  case eraseCurve => exact takeRequest_frame eraseCurve_frame s
  case readCurve => exact takeRead_frame _ _ s
  case setJobLabel => exact takeRequest_frame setJobLabel_frame s
  case configureTower => exact takeRequest_frame configureTower_frame s
  case setTargets => exact takeRequest_frame setTargets_frame s
  case loadZoneMap => exact takeRequest_frame loadZoneMap_frame s
  case setOffsets => exact takeRequest_frame setOffsets_frame s
  case clearJob => exact takeRequest_frame clearJob_frame s
  case readSettings => exact takeRead_frame _ _ s
  case stripOpen => exact takeRequest_frame stripOpen_frame s
  case stripSegment => exact takeRequest_frame stripSegment_frame s
  case stripClose => exact takeRequest_frame stripClose_frame s
  case zoneComputation u => exact zoneComputation_frame u s
  case setMotionLimits => exact takeRequest_frame setMotionLimits_frame s
  case clearKeyFault => exact takeRequest_frame clearKeyFault_frame s
  case moveTimeout u z => exact moveTimeout_frame u z s
  case densityFrameTaken => exact densityFrameTaken_frame s
  case armTrim => exact takeRequest_frame armTrim_frame s
  case clearTrim => exact takeRequest_frame clearTrim_frame s
  case loadTrimBands => exact takeRequest_frame loadTrimBands_frame s
  case pressPhase => exact takeRequest_frame pressPhase_frame s
  case changeover => exact takeRequest_frame changeover_frame s
  case cancelChangeover => exact takeRequest_frame cancelChangeover_frame s
  case sheetMark => exact sheetMark_frame s
  case setNoticeControl => exact takeRequest_frame setNoticeControl_frame s
  case clearPending => exact takeRequest_frame clearPending_frame s
  case readZone => exact takeRead_frame _ _ s
  case readTower => exact takeRead_frame _ _ s
  case readStatus => exact takeRead_frame _ _ s
  case bridgeReset => exact (takeRequest_frame bridgeReset_frame s).mono (by decide)
  case unknownRequestKind => exact unknownRequest_frame s
  case portUFrameReceived bytes => exact receive_frame routeU_frame (by simp) bytes s
  case portDFrameReceived bytes => exact receive_frame routeD_frame (by simp) bytes s
  case portMFrameReceived bytes => exact receive_frame routeM_frame (by simp) bytes s
  case portUTransmitArbiter => exact arbitrateU_frame s
  case portDTransmitArbiter => exact arbitrateD_frame s
  case powerOnReset => exact powerOnReset_frame s
  case resetRelease straps => exact resetRelease_frame straps s

/-! ### The handlers of the request commands -/

/-- A read request's handler as one that leaves the state. -/
def readOnly (g : List Byte → State → ResultCode × List Byte) (p : List Byte) (s : State) : Reply := ⟨s, (g p s).1, (g p s).2⟩

/-- The handler of a request kind. -/
def RequestKind.handler : RequestKind → List Byte → State → Reply
  | .loadCurve => Machine.loadCurve
  | .eraseCurve => Machine.eraseCurve
  | .readCurve => readOnly Machine.readCurve
  | .setJobLabel => Machine.setJobLabel
  | .configureTower => Machine.configureTower
  | .setTargets => Machine.setTargets
  | .loadZoneMap => Machine.loadZoneMap
  | .setOffsets => Machine.setOffsets
  | .clearJob => Machine.clearJob
  | .readSettings => readOnly Machine.readSettings
  | .stripOpen => Machine.stripOpen
  | .stripSegment => Machine.stripSegment
  | .stripClose => Machine.stripClose
  | .setMotionLimits => Machine.setMotionLimits
  | .clearKeyFault => Machine.clearKeyFault
  | .armTrim => Machine.armTrim
  | .clearTrim => Machine.clearTrim
  | .loadTrimBands => Machine.loadTrimBands
  | .pressPhase => Machine.pressPhase
  | .changeover => Machine.changeover
  | .cancelChangeover => Machine.cancelChangeover
  | .setNoticeControl => Machine.setNoticeControl
  | .clearPending => Machine.clearPending
  | .readZone => readOnly Machine.readZone
  | .readTower => readOnly Machine.readTower
  | .readStatus => readOnly Machine.readStatus
  | .bridgeReset => Machine.bridgeReset

/-- A request command is the taking of its kind's request, with that kind's handler. -/
theorem exec_request {c : Instr} {k : RequestKind} (h : (c, k) ∈ requestCommands) (s : State) :
    exec c s = .next (takeRequest k k.handler s) := by
  have all : ∀ q ∈ requestCommands, exec q.1 s = .next (takeRequest q.2 q.2.handler s) := by
    simp only [requestCommands, List.forall_mem_cons, List.not_mem_nil, false_implies, implies_true, and_true]
    repeat' apply And.intro
    all_goals rfl
  exact all _ h

/-- No handler but that of Bridge Reset changes the Link Controller. -/
theorem handler_link {k : RequestKind} (h : k ≠ .bridgeReset) (p : List Byte) (s : State) :
    (k.handler p s).state.link = s.link := by
  cases k
  case loadCurve => exact (loadCurve_frame p s).link
  case eraseCurve => exact (eraseCurve_frame p s).link
  case readCurve => rfl
  case setJobLabel => exact (setJobLabel_frame p s).link
  case configureTower => exact (configureTower_frame p s).link
  case setTargets => exact (setTargets_frame p s).link
  case loadZoneMap => exact (loadZoneMap_frame p s).link
  case setOffsets => exact (setOffsets_frame p s).link
  case clearJob => exact (clearJob_frame p s).link
  case readSettings => rfl
  case stripOpen => exact (stripOpen_frame p s).link
  case stripSegment => exact (stripSegment_frame p s).link
  case stripClose => exact (stripClose_frame p s).link
  case setMotionLimits => exact (setMotionLimits_frame p s).link
  case clearKeyFault => exact (clearKeyFault_frame p s).link
  case armTrim => exact (armTrim_frame p s).link
  case clearTrim => exact (clearTrim_frame p s).link
  case loadTrimBands => exact (loadTrimBands_frame p s).link
  case pressPhase => exact (pressPhase_frame p s).link
  case changeover => exact (changeover_frame p s).link
  case cancelChangeover => exact (cancelChangeover_frame p s).link
  case setNoticeControl => exact (setNoticeControl_frame p s).link
  case clearPending => exact (clearPending_frame p s).link
  case readZone => rfl
  case readTower => rfl
  case readStatus => rfl
  case bridgeReset => exact absurd rfl h

/-! ### The step -/

/-- No command stops the machine. -/
theorem exec_next (c : Instr) (s : State) : ∃ t, exec c s = .next t := by
  cases c <;> exact ⟨_, rfl⟩

/-- A step is one millisecond, or the effect of the command at the front of the queue. -/
theorem step_cases {s t : State} (h : step s = .next t) :
    t = tick s ∨ ∃ c rest, s.pending = c :: rest ∧ exec c (s.setPending rest) = .next t := by
  unfold step at h
  split at h
  · exact .inl (Host.Outcome.next.inj h).symm
  · next c rest pending => exact .inr ⟨c, rest, pending, h⟩

/-- What holds after one millisecond and after every command holds after every step, the queue of commands aside. -/
theorem step_keeps {P : State → Prop} (pending : ∀ s rest, P s → P (s.setPending rest)) (idle : ∀ s, P s → P (tick s))
    (command : ∀ c s t, P s → exec c s = .next t → P t) {s t : State} (holds : P s) (h : step s = .next t) : P t := by
  obtain ticked | ⟨c, rest, -, ran⟩ := step_cases h
  · exact ticked ▸ idle s holds
  · exact command c _ t (pending s rest holds) ran

end Sys2Proof.Machine
end

section
/-! SUPPORT. Valid curves and bounded frame queues: the commands that write the Curve Library or a frame queue (R2, R149). -/

set_option Elab.async false

namespace Sys2Proof.Machine

/-! ### The Curve Library (R2, R3, R4) -/

/-- The library of `t` is that of `s`, or that of a Library Change of a slot that is not In Use in `s`, whose new content is EMPTY
or satisfies R2. -/
def LibraryWritten (s t : State) : Prop :=
  t.library = s.library
    ∨ ∃ c x, s.inUse c = false ∧ (∀ cv, x = some cv → cv.valid = true) ∧ t.library = put s.library c x

theorem loadCurve_libraryWritten (p : List Byte) (s : State) : LibraryWritten s (loadCurve p s).state := by
  unfold loadCurve
  dsimp only
  repeat' split
  all_goals try exact .inl rfl
  next c k _ _ valid free => exact .inr ⟨c, some _, by simpa using free, fun cv h => Option.some.inj h ▸ valid, rfl⟩

theorem eraseCurve_libraryWritten (p : List Byte) (s : State) : LibraryWritten s (eraseCurve p s).state := by
  unfold eraseCurve
  dsimp only
  repeat' split
  all_goals try exact .inl rfl
  next c _ free => exact .inr ⟨c, none, by simpa using free, by simp, rfl⟩

/-- In Use, by R5: the RUNNING or the ARMED job names the slot. -/
theorem inUse_congr {s t : State} (h : t.jobs = s.jobs) (c : CurveIdx) : t.inUse c = s.inUse c := by
  simp [State.inUse, State.namedBy, h]

/-- A slot that the RUNNING or the ARMED job names is In Use (R5). -/
theorem inUse_of_named {s : State} {j : SlotIdx} {job : Job} {u : TowerIdx} {d : CurveIdx}
    (held : look s.jobs j = .held .running job ∨ look s.jobs j = .held .armed job)
    (named : (look job.towers u).keyCurve = some d ∨ (look job.towers u).sweepCurve = some d) : s.inUse d = true := by
  have names : job.names d = true := by
    simp only [Job.names, List.any_eq_true, TowerSettings.names, Bool.or_eq_true, beq_iff_eq]
    exact ⟨u, mem_allTowers u, named⟩
  fin_cases j
  · obtain held | held := held <;> simp_all [State.inUse, State.namedBy, JobSlot.inRole, JobSlot.job]
  · obtain held | held := held <;> simp_all [State.inUse, State.namedBy, JobSlot.inRole, JobSlot.job]

theorem takeRequest_libraryWritten {k : RequestKind} {g : List Byte → State → Reply}
    (hg : ∀ p s, LibraryWritten s (g p s).state) (s : State) : LibraryWritten s (takeRequest k g s) := by
  obtain idle | ⟨f, rest, -, taken⟩ := takeRequest_cases k g s
  · exact .inl (congrArg _ idle)
  · have answered : (takeRequest k g s).library = (g f.payload (s.taken rest)).state.library := by
      rw [taken]
      exact (answer_frame _ _ _ _).library
    obtain same | ⟨c, x, free, valid, written⟩ := hg f.payload (s.taken rest)
    · exact .inl (answered.trans same)
    · exact .inr ⟨c, x, (inUse_congr (taken_jobs s rest) c).symm.trans free, valid, answered.trans written⟩

/-- Power-on reset apart, every command leaves the library or makes a Library Change of a slot that is not In Use. -/
theorem exec_libraryWritten {c : Instr} {s t : State} (h : exec c s = .next t) (live : c ≠ .powerOnReset) :
    LibraryWritten s t := by
  by_cases same : Block.library ∈ c.changes
  · cases c <;> simp [Instr.changes] at same live
    case loadCurve => exact Host.Outcome.next.inj h ▸ takeRequest_libraryWritten loadCurve_libraryWritten s
    case eraseCurve => exact Host.Outcome.next.inj h ▸ takeRequest_libraryWritten eraseCurve_libraryWritten s
  · exact .inl ((exec_frame h).library same)

theorem CurvesValid.congr {s t : State} (valid : CurvesValid s) (h : t.library = s.library) : CurvesValid t := fun c cv loaded =>
  valid c cv (h ▸ loaded)

theorem CurvesValid.written {s t : State} (valid : CurvesValid s) (h : LibraryWritten s t) : CurvesValid t := by
  obtain same | ⟨c, x, -, new, written⟩ := h
  · exact valid.congr same
  · intro d cv loaded
    rw [written, look_put] at loaded
    split at loaded
    · exact new cv loaded
    · exact valid d cv loaded

theorem curvesValid_reset : CurvesValid State.reset := by
  intro c cv loaded
  simp [State.reset] at loaded

theorem exec_curvesValid {c : Instr} {s t : State} (valid : CurvesValid s) (h : exec c s = .next t) : CurvesValid t := by
  by_cases live : c = .powerOnReset
  · subst live
    exact curvesValid_reset.congr (Host.Outcome.next.inj h ▸ rfl)
  · exact valid.written (exec_libraryWritten h live)

/-! ### The frame queues (R149) -/

/-- The capacities of R149 on a Link Controller. -/
def Link.withinCapacity (l : Link) : Prop :=
  l.uReceive.length ≤ 8 ∧ l.responses.length ≤ 4 ∧ l.upForward.length ≤ 16 ∧ l.downForward.length ≤ 16
    ∧ l.mReceive.length ≤ 4

theorem queuesWithinCapacity_iff (s : State) : QueuesWithinCapacity s ↔ s.link.withinCapacity := Iff.rfl

/-- Bridge Reset keeps the Response Queue and empties the others, any other handler leaves them all. -/
theorem handler_withinCapacity {k : RequestKind} {p : List Byte} {s : State} (bounded : s.link.withinCapacity) :
    (k.handler p s).state.link.withinCapacity ∧ (k.handler p s).state.link.responses = s.link.responses := by
  by_cases reset : k = .bridgeReset
  · subst reset
    simp only [RequestKind.handler, bridgeReset]
    split
    · exact ⟨bounded, rfl⟩
    · exact ⟨⟨Nat.zero_le _, bounded.2.1, Nat.zero_le _, Nat.zero_le _, Nat.zero_le _⟩, rfl⟩
  · rw [handler_link reset]
    exact ⟨bounded, rfl⟩

theorem taken_withinCapacity {s : State} {f : Frame} {rest : List Frame} (bounded : s.link.withinCapacity)
    (queued : s.link.uReceive = f :: rest) : (s.taken rest).link.withinCapacity := by
  obtain ⟨receive, others⟩ := bounded
  rw [queued, List.length_cons] at receive
  exact ⟨by simp only [taken_link]; omega, others⟩

theorem answer_withinCapacity {s : State} (bounded : s.link.withinCapacity) (room : s.link.responses.length < 4) (f : Frame)
    (code : ResultCode) (fields : List Byte) : (answer f code fields s).link.withinCapacity := by
  obtain ⟨receive, responses, others⟩ := bounded
  rw [answer_link]
  refine ⟨receive, ?_, others⟩
  simp only [responsesAfter]
  split
  · exact responses
  · rw [List.length_append, List.length_singleton]
    omega

/-- An answer is given only while the Response Queue has room, and its request has then left the U Receive Queue. -/
theorem takeRequest_withinCapacity (k : RequestKind) {s : State} (bounded : s.link.withinCapacity) :
    (takeRequest k k.handler s).link.withinCapacity := by
  obtain idle | ⟨f, rest, ⟨queued, room, -⟩, taken⟩ := takeRequest_cases k k.handler s
  · rwa [idle]
  · obtain ⟨handled, same⟩ := handler_withinCapacity (k := k) (p := f.payload) (taken_withinCapacity bounded queued)
    rw [taken]
    exact answer_withinCapacity handled (by rwa [same]) _ _ _

theorem unknownRequest_cases (s : State) :
    unknownRequest s = s ∨ ∃ f rest, s.link.uReceive = f :: rest ∧ s.link.responses.length < 4
      ∧ isRequestKind f.kind = false ∧ unknownRequest s = answer f .unknown [] (s.taken rest) := by
  cases queued : s.link.uReceive with
  | nil => simp [unknownRequest, headRequest, queued]
  | cons f rest =>
    by_cases room : s.link.responses.length < 4
    · cases known : isRequestKind f.kind with
      | true => simp [unknownRequest, headRequest, queued, room, known, Config.responseCap]
      | false =>
        exact .inr ⟨f, rest, rfl, room, known, by simp [unknownRequest, headRequest, queued, room, known, Config.responseCap, State.taken]⟩
    · simp [unknownRequest, headRequest, queued, room, Config.responseCap]

theorem unknownRequest_withinCapacity {s : State} (bounded : s.link.withinCapacity) :
    (unknownRequest s).link.withinCapacity := by
  obtain idle | ⟨f, rest, queued, room, -, taken⟩ := unknownRequest_cases s
  · rwa [idle]
  · rw [taken]
    exact answer_withinCapacity (taken_withinCapacity bounded queued) room _ _ _

/-- A queue with room is within its capacity with one frame more. -/
theorem length_concat_le {α : Type} {l : List α} {x : α} {n : Nat} (room : l.length < n) : (l ++ [x]).length ≤ n := by
  rw [List.length_append, List.length_singleton]
  omega

section
variable {s : State}

theorem placeRequest_withinCapacity (f : Frame) (h : s.link.withinCapacity) : (placeRequest f s).link.withinCapacity := by
  unfold placeRequest
  split
  · next room => exact ⟨length_concat_le room, h.2⟩
  · exact h

theorem placeDown_withinCapacity (f : Frame) (h : s.link.withinCapacity) : (placeDown f s).link.withinCapacity := by
  obtain ⟨receive, responses, up, down, density⟩ := h
  unfold placeDown
  split
  · next room => exact ⟨receive, responses, up, length_concat_le room, density⟩
  · exact ⟨receive, responses, up, down, density⟩

theorem placeUp_withinCapacity (f : Frame) (h : s.link.withinCapacity) : (placeUp f s).link.withinCapacity := by
  obtain ⟨receive, responses, up, others⟩ := h
  unfold placeUp
  split
  · next room => exact ⟨receive, responses, length_concat_le room, others⟩
  · exact ⟨receive, responses, up, others⟩

theorem placeDensity_withinCapacity (f : Frame) (h : s.link.withinCapacity) : (placeDensity f s).link.withinCapacity := by
  obtain ⟨receive, responses, up, down, density⟩ := h
  unfold placeDensity
  split
  · next room => exact ⟨receive, responses, up, down, length_concat_le room⟩
  · exact ⟨receive, responses, up, down, density⟩

/-- A run of bytes received leaves the queues alone where it is ignored or discarded, and else only its routing counts. -/
theorem receive_withinCapacity {p : Port} {route : Frame → State → State}
    (routed : ∀ f s, s.link.withinCapacity → (route f s).link.withinCapacity) (bytes : List Byte)
    (h : s.link.withinCapacity) : (receive p route bytes s).link.withinCapacity := by
  unfold receive
  split
  · exact h
  · split
    · exact h
    · exact routed _ s h

theorem routeU_withinCapacity (f : Frame) (h : s.link.withinCapacity) : (routeU f s).link.withinCapacity := by
  unfold routeU
  split
  · exact placeRequest_withinCapacity f h
  · split
    · exact placeDown_withinCapacity f (placeRequest_withinCapacity f h)
    · exact placeDown_withinCapacity f h

theorem routeD_withinCapacity (f : Frame) (h : s.link.withinCapacity) : (routeD f s).link.withinCapacity := by
  unfold routeD
  split
  · rwa [(takeKeyReport_frame _ _ _).link]
  · split
    · exact h
    · exact placeUp_withinCapacity f h

theorem routeM_withinCapacity (f : Frame) (h : s.link.withinCapacity) : (routeM f s).link.withinCapacity := by
  unfold routeM
  split
  · exact placeDensity_withinCapacity f h
  · exact h

theorem densityFrameTaken_withinCapacity (h : s.link.withinCapacity) : (densityFrameTaken s).link.withinCapacity := by
  obtain ⟨receive, responses, up, down, density⟩ := h
  unfold densityFrameTaken
  split
  · exact ⟨receive, responses, up, down, density⟩
  · next fa rest queued =>
    rw [queued, List.length_cons] at density
    rw [(takeDensity_frame _ _ _).link]
    exact ⟨receive, responses, up, down, Nat.le_of_succ_le density⟩

theorem noticeTurn_withinCapacity (h : s.link.withinCapacity) : (noticeTurn s).link.withinCapacity := by
  unfold noticeTurn
  split
  · exact h
  · split <;> exact h

theorem arbitrateU_withinCapacity (h : s.link.withinCapacity) : (arbitrateU s).link.withinCapacity := by
  have ⟨receive, responses, up, others⟩ := h
  unfold arbitrateU
  split
  · next f rest queued =>
    rw [queued, List.length_cons] at responses
    exact ⟨receive, Nat.le_of_succ_le responses, up, others⟩
  · split
    · next f rest queued =>
      rw [queued, List.length_cons] at up
      exact ⟨receive, responses, Nat.le_of_succ_le up, others⟩
    · exact noticeTurn_withinCapacity h

theorem arbitrateD_withinCapacity (h : s.link.withinCapacity) : (arbitrateD s).link.withinCapacity := by
  have ⟨receive, responses, up, down, density⟩ := h
  unfold arbitrateD
  split
  · rw [sendDrive, (startTimer_frame _ _).link]
    exact h
  · split
    · next f rest queued =>
      rw [queued, List.length_cons] at down
      exact ⟨receive, responses, up, Nat.le_of_succ_le down, density⟩
    · exact h

theorem resetRelease_withinCapacity (straps : BitVec 3) (h : s.link.withinCapacity) :
    (resetRelease straps s).link.withinCapacity := by
  unfold resetRelease
  split <;> exact h

end

/-- A command that is no request command leaves the Link Controller, or is one of these. -/
theorem request_or_link {c : Instr} (h : Block.link ∈ c.changes) :
    (∃ k, (c, k) ∈ requestCommands) ∨ c = .densityFrameTaken ∨ c = .unknownRequestKind
      ∨ (∃ bytes, c = .portUFrameReceived bytes) ∨ (∃ bytes, c = .portDFrameReceived bytes)
      ∨ (∃ bytes, c = .portMFrameReceived bytes) ∨ c = .portUTransmitArbiter ∨ c = .portDTransmitArbiter
      ∨ c = .powerOnReset ∨ ∃ straps, c = .resetRelease straps := by
  cases c <;> simp [Instr.changes, requestCommands] at h ⊢

theorem exec_withinCapacity {c : Instr} {s t : State} (h : s.link.withinCapacity) (ran : exec c s = .next t) :
    t.link.withinCapacity := by
  by_cases changes : Block.link ∈ c.changes
  · obtain ⟨k, request⟩ | rfl | rfl | ⟨bytes, rfl⟩ | ⟨bytes, rfl⟩ | ⟨bytes, rfl⟩ | rfl | rfl | rfl | ⟨straps, rfl⟩ :=
      request_or_link changes
    · rw [exec_request request] at ran
      exact Host.Outcome.next.inj ran ▸ takeRequest_withinCapacity k h
    all_goals rw [← Host.Outcome.next.inj ran]
    · exact densityFrameTaken_withinCapacity h
    · exact unknownRequest_withinCapacity h
    · exact receive_withinCapacity (fun f s => routeU_withinCapacity f) bytes h
    · exact receive_withinCapacity (fun f s => routeD_withinCapacity f) bytes h
    · exact receive_withinCapacity (fun f s => routeM_withinCapacity f) bytes h
    · exact arbitrateU_withinCapacity h
    · exact arbitrateD_withinCapacity h
    · exact ⟨Nat.zero_le _, Nat.zero_le _, Nat.zero_le _, Nat.zero_le _, Nat.zero_le _⟩
    · exact resetRelease_withinCapacity straps h
  · rwa [(exec_frame ran).link changes]

end Sys2Proof.Machine
end

section
/-! PROOF. The step and the Curve Library: commands taken in turn, curves and queues kept valid, curves In Use kept. -/

set_option Elab.async false

namespace Sys2Proof.Machine

/-- Settles O1: by definition of a step, and since no command stops. -/
theorem stepRunsFrontCommand : Obligations.StepRunsFrontCommand := by
  unfold Obligations.StepRunsFrontCommand
  refine ⟨fun c rest s => rfl, fun s => ?_⟩
  unfold NeverStops step
  split
  · exact ⟨_, rfl⟩
  · exact exec_next _ _

/-- Settles O57: one millisecond changes neither block, and each command writes them within R2 and R149. -/
theorem everyStepKeepsCurvesAndQueues : Obligations.EveryStepKeepsCurvesAndQueues := by
  unfold Obligations.EveryStepKeepsCurvesAndQueues
  constructor
  · intro s t valid
    exact step_keeps (P := CurvesValid) (fun s rest h => h) (fun s h => h.congr (tick_frame s).library)
      (fun c s t h => exec_curvesValid h) valid
  · intro s t bounded
    refine step_keeps (P := QueuesWithinCapacity) (fun s rest h => h) (fun s h => ?_) (fun c s t h => exec_withinCapacity h)
      bounded
    rw [queuesWithinCapacity_iff, (tick_frame s).link]
    exact h

/-- Settles O20: a Library Change is only ever made of a slot that is not In Use. -/
theorem curvesInUseAreFixed : Obligations.CurvesInUseAreFixed := by
  unfold Obligations.CurvesInUseAreFixed
  rintro c s t ran live d ⟨j, job, u, held, named⟩
  obtain same | ⟨e, x, free, -, written⟩ := exec_libraryWritten ran live
  · rw [same]
  · have used : s.inUse d = true := inUse_of_named held named
    rw [written, look_put, if_neg]
    rintro rfl
    simp [used] at free

end Sys2Proof.Machine
end

section
/-! SUPPORT. The machine as power-on reset leaves it, read by its accessors, and the Link Controller after a Bridge Reset. -/

set_option Elab.async false

namespace Sys2Proof.Machine

/-! ### The accessors at power-on reset -/

@[simp] theorem reset_zone (u : TowerIdx) (z : ZoneIdx) : State.reset.zone u z = .reset := zlook_replicate _ u z
@[simp] theorem reset_targetOf (u : TowerIdx) (z : ZoneIdx) : State.reset.targetOf u z = none := zlook_replicate _ u z
@[simp] theorem reset_trimOf (u : TowerIdx) (z : ZoneIdx) : State.reset.trimOf u z = .reset := zlook_replicate _ u z
@[simp] theorem reset_pass (u : TowerIdx) : State.reset.pass u = .reset := look_replicate _ u
@[simp] theorem reset_slot (j : SlotIdx) : look State.reset.jobs j = .empty := look_replicate _ j
@[simp] theorem reset_buffer (i : Fin 4) : look State.reset.buffers i = none := look_replicate _ i
@[simp] theorem reset_curve (c : CurveIdx) : look State.reset.library c = none := look_replicate _ c
@[simp] theorem reset_queue : State.reset.motion.queue = [] := rfl

@[simp] theorem reset_record (j : SlotIdx) (u : TowerIdx) : State.reset.record j u = .default := by
  rw [State.record, reset_slot]
  exact look_replicate _ u

/-! ### The invariants at power-on reset -/

theorem jobRolesConsistent_reset : JobRolesConsistent State.reset := by
  simp [JobRolesConsistent, JobSlot.inRole, State.reset, Cycle.reset]

theorem targetsWithinMaximum_reset : TargetsWithinMaximum State.reset := by simp [TargetsWithinMaximum]

theorem trimsWithinLimit_reset : TrimsWithinLimit State.reset := by simp [TrimsWithinLimit, TrimZone.reset]

theorem motionConsistent_reset : MotionConsistent State.reset := by simp [MotionConsistent, MotionZone.reset]

theorem countsExact_reset : CountsExact State.reset := by
  have still : ∀ u, State.reset.moving u = 0 := by simp [State.moving, MotionZone.reset, MotionState.inFlight]
  refine ⟨fun u => (look_replicate _ u).trans (still u).symm, ?_⟩
  rw [funext still]
  rfl

theorem driveQueueConsistent_reset : DriveQueueConsistent State.reset := by
  simp [DriveQueueConsistent, MotionZone.reset]

theorem stripsConsistent_reset : StripsConsistent State.reset := by
  simp [StripsConsistent, TowerSettings.default]

/-! ### Bridge Reset -/

/-- The state an accepted Bridge Reset leaves (R158). -/
def State.bridgeReset (s : State) : State :=
  { s with
    jobs := .replicate 2 .empty, buffers := .replicate 4 none, engine := .reset, motion := s.motion.bridgeReset
    trim := s.trim.bridgeReset, cycle := s.cycle.bridgeReset, notice := s.notice.bridgeReset, link := s.link.bridgeReset }

theorem bridgeReset_accepted {p : List Byte} (hp : p = []) (s : State) : bridgeReset p s = ⟨s.bridgeReset, .ok, []⟩ := by
  subst hp
  rfl

/-- Bridge Reset keeps the tag of every zone (R99). -/
theorem State.bridgeReset_zone (s : State) (u : TowerIdx) (z : ZoneIdx) :
    s.bridgeReset.zone u z = { MotionZone.reset with tag := (s.zone u z).tag } := zlook_ztab _ u z

/-- The address the strap pins give (R145). -/
theorem controllerBase_add (straps : BitVec 3) :
    Config.controllerBase + straps.zeroExtend 8 = BitVec.ofNat 8 (0x30 + straps.toNat) := by
  apply BitVec.eq_of_toNat_eq
  simp [Config.controllerBase]

end Sys2Proof.Machine
end

section
/-! PROOF. Notices and resets (chapters 8 and 9): occurrences, Bridge Reset, power-on reset and its release, the invariants at
reset. -/

set_option Elab.async false

namespace Sys2Proof.Machine

/-- Settles O52: the record is created or merged, and no other part of the Notice Unit is written. -/
theorem occurrencesMergeIntoOneRecord : Obligations.OccurrencesMergeIntoOneRecord := by
  unfold Obligations.OccurrencesMergeIntoOneRecord
  intro k tower d s t
  refine ⟨raise_frame k tower d s, fun i other => ?_, rfl, fun none => ?_, fun r some => ?_⟩
  · rw [raise_records, if_neg other.symm]
  · rw [raise_records, if_pos rfl, none]
    rfl
  · rw [raise_records, if_pos rfl, some]
    rfl

/-- Settles O54: each block's part of the reset, with the answer behind those already queued. -/
theorem bridgeResetKeepsWhatItNames : Obligations.BridgeResetKeepsWhatItNames := by
  unfold Obligations.BridgeResetKeepsWhatItNames
  intro s f rest waits payload
  have taken : takeRequest .bridgeReset bridgeReset s = answer f .ok [] (s.taken rest).bridgeReset := by
    rw [takeRequest_of_waits waits, bridgeReset_accepted payload]
  have after : OnlyChanges [.link] (s.taken rest).bridgeReset (takeRequest .bridgeReset bridgeReset s) :=
    taken ▸ answer_frame f .ok [] _
  have link : (takeRequest .bridgeReset bridgeReset s).link = _ := (congrArg State.link taken).trans (answer_link ..)
  refine ⟨takeRequest .bridgeReset bridgeReset s, rfl, (takeRequest_frame bridgeReset_frame s).mono (by simp), fun j => ?_,
    fun i => ?_, fun u z => ?_, fun u => ?_, fun u z => ?_, ?_, fun u z => ?_, ?_, after.cycle, after.notice, link⟩
  · rw [after.jobs]
    exact look_replicate _ j
  · rw [after.buffers]
    exact look_replicate _ i
  · exact (targetOf_congr after.engine u z).trans (reset_targetOf u z)
  · exact (pass_congr after.engine u).trans (reset_pass u)
  · exact (zone_congr after.motion u z).trans ((s.taken rest).bridgeReset_zone u z)
  · rw [after.motion]
    rfl
  · exact (trimOf_congr after.trim u z).trans (reset_trimOf u z)
  · rw [after.trim]
    rfl

/-- Settles O55: power-on reset is the machine of the reset rules, and RESET held and its release are read off their
definitions. -/
theorem powerOnResetAndRelease : Obligations.PowerOnResetAndRelease := by
  unfold Obligations.PowerOnResetAndRelease
  refine ⟨fun s => ⟨powerOnReset s, rfl, reset_curve, reset_slot, reset_buffer, reset_targetOf, reset_pass, reset_zone, rfl,
    reset_trimOf, rfl, rfl, rfl, rfl, rfl, rfl, rfl⟩, fun s held => ⟨fun bytes => ⟨?_, ?_, ?_⟩, ?_, fun straps => ?_⟩,
    fun s free straps => ?_⟩
  · exact congrArg Host.Outcome.next (if_pos held)
  · exact congrArg Host.Outcome.next (if_pos held)
  · exact congrArg Host.Outcome.next (if_pos held)
  · exact congrArg Host.Outcome.next (if_pos held)
  · rw [← controllerBase_add]
    exact congrArg Host.Outcome.next (if_pos held)
  · exact congrArg Host.Outcome.next (if_neg (Bool.eq_false_iff.1 free))

/-- Settles O56: every invariant, from what the accessors read at power-on reset. -/
theorem resetMeetsEveryInvariant : Obligations.ResetMeetsEveryInvariant := by
  unfold Obligations.ResetMeetsEveryInvariant
  exact ⟨curvesValid_reset, by unfold QueuesWithinCapacity; decide, jobRolesConsistent_reset, targetsWithinMaximum_reset,
    trimsWithinLimit_reset, motionConsistent_reset, countsExact_reset, driveQueueConsistent_reset, stripsConsistent_reset⟩

end Sys2Proof.Machine
end

section
/-! SUPPORT. Requests of every kind (R152, R153): the codes they are answered with, the lengths they are refused on, and the first
two steps of R17. -/

set_option Elab.async false

namespace Sys2Proof.Machine

/-! ### Result codes -/

/-- A load request is answered UNKNOWN only where its own checks say so. -/
theorem loadRequest_code {p : List Byte} {ok : Bool} {refusal : List Byte} {body : SlotIdx → TowerIdx → Verdict} {s : State}
    (h : ∀ j u c, body j u = .refuse c → c ≠ .unknown) : (loadRequest p ok refusal body s).code ≠ .unknown := by
  unfold loadRequest
  dsimp only
  split
  · split
    · split
      · simp
      · split
        · next refused => exact h _ _ _ refused
        · simp
    · simp
  · simp

theorem openBody_code {p : List Byte} {s : State} {j : SlotIdx} {u : TowerIdx} {c : ResultCode}
    (h : openBody p s j u = .refuse c) : c ≠ .unknown := by
  unfold openBody at h
  dsimp only at h
  repeat' split at h
  all_goals cases h
  all_goals simp

theorem segmentBody_code {p : List Byte} {s : State} {j : SlotIdx} {u : TowerIdx} {c : ResultCode}
    (h : segmentBody p s j u = .refuse c) : c ≠ .unknown := by
  unfold segmentBody at h
  dsimp only at h
  repeat' split at h
  all_goals cases h
  all_goals simp

theorem closeBody_code {s : State} {j : SlotIdx} {u : TowerIdx} {c : ResultCode} (h : closeBody s j u = .refuse c) :
    c ≠ .unknown := by
  unfold closeBody at h
  dsimp only at h
  repeat' split at h
  all_goals cases h
  all_goals simp

theorem offsetsBody_code {p : List Byte} {s : State} {j : SlotIdx} {u : TowerIdx} {c : ResultCode}
    (h : offsetsBody p s j u = .refuse c) : c ≠ .unknown := by
  unfold offsetsBody at h
  dsimp only at h
  repeat' split at h
  all_goals cases h
  all_goals simp

theorem configureTower_code (p s) : (configureTower p s).code ≠ .unknown := by
  unfold configureTower
  split
  · simp [Reply.badLength, Reply.bare]
  · exact loadRequest_code (by simp)

theorem setTargets_code (p s) : (setTargets p s).code ≠ .unknown := by
  unfold setTargets
  split
  · simp [Reply.badLength, Reply.bare]
  · exact loadRequest_code (by simp)

theorem loadZoneMap_code (p s) : (loadZoneMap p s).code ≠ .unknown := by
  unfold loadZoneMap
  split
  · simp [Reply.badLength, Reply.bare]
  · refine loadRequest_code fun j u c h => ?_
    repeat' split at h
    all_goals cases h
    all_goals simp

theorem setOffsets_code (p s) : (setOffsets p s).code ≠ .unknown := by
  unfold setOffsets
  dsimp only
  repeat' split
  all_goals first | simp [Reply.badLength, Reply.bare]; done | exact loadRequest_code fun j u c => offsetsBody_code

theorem stripOpen_code (p s) : (stripOpen p s).code ≠ .unknown := by
  unfold stripOpen
  split
  · simp [Reply.badLength, Reply.bare]
  · exact loadRequest_code fun j u c => openBody_code

theorem stripSegment_code (p s) : (stripSegment p s).code ≠ .unknown := by
  unfold stripSegment
  dsimp only
  repeat' split
  all_goals first | simp [Reply.badLength, Reply.bare]; done | exact loadRequest_code fun j u c => segmentBody_code

theorem stripClose_code (p s) : (stripClose p s).code ≠ .unknown := by
  unfold stripClose
  split
  · simp [Reply.badLength, Reply.bare]
  · exact loadRequest_code fun j u c => closeBody_code

/-- No handler answers UNKNOWN: that code is for kinds that have no handler. -/
theorem handler_code (k : RequestKind) (p : List Byte) (s : State) : (k.handler p s).code ≠ .unknown := by
  cases k
  case configureTower => exact configureTower_code p s
  case setTargets => exact setTargets_code p s
  case loadZoneMap => exact loadZoneMap_code p s
  case setOffsets => exact setOffsets_code p s
  case stripOpen => exact stripOpen_code p s
  case stripSegment => exact stripSegment_code p s
  case stripClose => exact stripClose_code p s
  all_goals
    simp only [RequestKind.handler, readOnly, loadCurve, eraseCurve, readCurve, setJobLabel, clearJob, readSettings,
      setMotionLimits, clearKeyFault, armTrim, clearTrim, loadTrimBands, pressPhase, changeover, cancelChangeover,
      setNoticeControl, clearPending, readZone, readTower, readStatus, bridgeReset, Reply.badLength, Reply.bare]
    repeat' split
  all_goals simp only [ne_eq, reduceCtorEq, not_false_eq_true]

theorem ResultCode.num_le {c : ResultCode} (h : c ≠ .unknown) : c.num ≤ 6 := by
  cases c
  case unknown => exact absurd rfl h
  all_goals decide

/-! ### Wrong lengths (R153) -/

/-- The payload has the wrong length for its kind: not the fixed one, too short to hold its counts, or not the one that counts in
range give (R153, R160). -/
def RequestKind.wrongLength (k : RequestKind) (p : List Byte) : Prop :=
  match k with
  | .loadCurve =>
    p.length < 3
      ∨ (u8 p 2 ≤ 8 ∧ (p.length < 4 + u8 p 2
        ∨ (2 ≤ u8 p (3 + u8 p 2) ∧ u8 p (3 + u8 p 2) ≤ 9 ∧ p.length ≠ 4 + u8 p 2 + 4 * u8 p (3 + u8 p 2))))
  | .setJobLabel => p.length < 2 ∨ (u8 p 1 ≤ 16 ∧ p.length ≠ 2 + u8 p 1)
  | .setOffsets => p.length < 4 ∨ (1 ≤ u8 p 3 ∧ u8 p 3 ≤ 48 ∧ p.length ≠ 4 + 2 * u8 p 3)
  | .stripSegment => p.length < 5 ∨ (1 ≤ u8 p 4 ∧ u8 p 4 ≤ 96 ∧ p.length ≠ 5 + 2 * u8 p 4)
  | other => fixedLength other ≠ some p.length

section
variable {p : List Byte} (s : State)

theorem loadCurve_wrongLength (h : RequestKind.loadCurve.wrongLength p) : loadCurve p s = .badLength s := by
  simp only [RequestKind.wrongLength] at h
  unfold loadCurve
  dsimp only
  by_cases short : p.length < 3
  · rw [if_pos short]
  · obtain ⟨label, rest⟩ := h.resolve_left short
    rw [if_neg short, if_neg (by omega)]
    by_cases short' : p.length < 4 + u8 p 2
    · rw [if_pos short']
    · obtain ⟨least, most, wrong⟩ := rest.resolve_left short'
      rw [if_neg short', if_neg (by omega), if_pos wrong]

theorem setJobLabel_wrongLength (h : RequestKind.setJobLabel.wrongLength p) : setJobLabel p s = .badLength s := by
  simp only [RequestKind.wrongLength] at h
  unfold setJobLabel
  dsimp only
  by_cases short : p.length < 2
  · rw [if_pos short]
  · obtain ⟨label, wrong⟩ := h.resolve_left short
    rw [if_neg short, if_neg (by omega), if_pos wrong]

theorem setOffsets_wrongLength (h : RequestKind.setOffsets.wrongLength p) : setOffsets p s = .badLength s := by
  simp only [RequestKind.wrongLength] at h
  unfold setOffsets
  dsimp only
  by_cases short : p.length < 4
  · rw [if_pos short]
  · obtain ⟨least, most, wrong⟩ := h.resolve_left short
    rw [if_neg short, if_neg (by omega), if_pos wrong]

theorem stripSegment_wrongLength (h : RequestKind.stripSegment.wrongLength p) : stripSegment p s = .badLength s := by
  simp only [RequestKind.wrongLength] at h
  unfold stripSegment
  dsimp only
  by_cases short : p.length < 5
  · rw [if_pos short]
  · obtain ⟨least, most, wrong⟩ := h.resolve_left short
    rw [if_neg short, if_neg (by omega), if_pos wrong]

/-- Every handler refuses a payload of the wrong length RANGE, without effect and without fields. -/
theorem handler_wrongLength {k : RequestKind} (h : k.wrongLength p) : k.handler p s = .badLength s := by
  cases k
  case loadCurve => exact loadCurve_wrongLength s h
  case setJobLabel => exact setJobLabel_wrongLength s h
  case setOffsets => exact setOffsets_wrongLength s h
  case stripSegment => exact stripSegment_wrongLength s h
  all_goals
    have wrong : p.length ≠ _ := fun right => h (congrArg some right.symm)
    simp only [RequestKind.handler, readOnly, eraseCurve, readCurve, configureTower, setTargets, loadZoneMap, clearJob,
      readSettings, stripOpen, stripClose, setMotionLimits, clearKeyFault, armTrim, clearTrim, loadTrimBands, pressPhase,
      changeover, cancelChangeover, setNoticeControl, clearPending, readZone, readTower, readStatus, bridgeReset, if_pos wrong]
  all_goals rfl

end

/-! ### Slot, tower and fields, then the ARMED slot (R17) -/

/-- A handler judges its payload by the first two steps of R17: RANGE on a slot, tower or field out of range, then BUSY on an ARMED
slot, each with the fields of R18 in front. -/
structure ChecksFieldsThenArmed (g : List Byte → State → Reply) (bad : List Byte → Prop) (len : List Byte → Nat) : Prop where
  unnamed : ∀ p s, p.length = len p → (2 ≤ u8 p 0 ∨ 12 ≤ u8 p 1) → ∃ more, g p s = ⟨s, .range, loadFields p s ++ more⟩
  fields : ∀ p s, p.length = len p → bad p → ∃ more, g p s = ⟨s, .range, loadFields p s ++ more⟩
  armed : ∀ p s (j : SlotIdx) (u : TowerIdx), p.length = len p → u8 p 0 = j.val → u8 p 1 = u.val → ¬ bad p →
    (look s.jobs j).inRole .armed = true → ∃ more, g p s = ⟨s, .busy, loadFields p s ++ more⟩

theorem towerOf_eq_none {n : Nat} (h : 12 ≤ n) : towerOf n = none := dif_neg h.not_gt

/-- A request on a slot or tower that does not exist, or with a field out of range, is refused RANGE. -/
theorem loadRequest_range {p : List Byte} {ok : Bool} {refusal : List Byte} {body : SlotIdx → TowerIdx → Verdict} {s : State}
    (h : 2 ≤ u8 p 0 ∨ 12 ≤ u8 p 1 ∨ ok = false) : loadRequest p ok refusal body s = ⟨s, .range, loadFields p s ++ refusal⟩ := by
  unfold loadRequest
  dsimp only
  split
  · next j u slot tower =>
    obtain out | out | bad := h
    · simp [slotOf_eq_none out] at slot
    · simp [towerOf_eq_none out] at tower
    · rw [if_neg (by simp [bad])]
  · rfl

/-- A handler that is, on a payload of the right length, the shared steps with this field check. -/
theorem checks_of_loadRequest {g : List Byte → State → Reply} {bad : List Byte → Prop} {len : List Byte → Nat}
    {ok : List Byte → Bool} {refusal : List Byte → State → List Byte}
    {body : List Byte → State → SlotIdx → TowerIdx → Verdict}
    (hg : ∀ p s, p.length = len p → g p s = loadRequest p (ok p) (refusal p s) (body p s) s)
    (hok : ∀ p, ok p = true ↔ ¬ bad p) : ChecksFieldsThenArmed g bad len where
  unnamed p s hp out := ⟨_, (hg p s hp).trans (loadRequest_range (out.imp_right .inl))⟩
  fields p s hp isBad := ⟨_, (hg p s hp).trans
    (loadRequest_range (.inr (.inr (Bool.eq_false_iff.2 fun good => (hok p).1 good isBad))))⟩
  armed p s j u hp slot tower good isArmed := ⟨_, by
    rw [hg p s hp, loadRequest_armed slot tower ((hok p).2 good) isArmed, ← loadFields_eq slot tower]⟩

/-- A handler that judges a count of its own first, and then as the shared steps without a field check. -/
theorem checks_of_count {g : List Byte → State → Reply} {bad count : List Byte → Prop} {len : List Byte → Nat}
    {ok : List Byte → Bool} {body : List Byte → State → SlotIdx → TowerIdx → Verdict}
    (refused : ∀ p s, p.length = len p → count p → g p s = ⟨s, .range, loadFields p s⟩)
    (hg : ∀ p s, p.length = len p → ¬ count p → g p s = loadRequest p (ok p) [] (body p s) s)
    (hok : ∀ p, ¬ count p → (ok p = true ↔ ¬ bad p)) (counts : ∀ p, count p → bad p) : ChecksFieldsThenArmed g bad len where
  unnamed p s hp out := by
    by_cases c : count p
    · exact ⟨[], by rw [refused p s hp c, List.append_nil]⟩
    · exact ⟨_, (hg p s hp c).trans (loadRequest_range (out.imp_right .inl))⟩
  fields p s hp isBad := by
    by_cases c : count p
    · exact ⟨[], by rw [refused p s hp c, List.append_nil]⟩
    · exact ⟨_, (hg p s hp c).trans
        (loadRequest_range (.inr (.inr (Bool.eq_false_iff.2 fun good => (hok p c).1 good isBad))))⟩
  armed p s j u hp slot tower good isArmed := by
    have c : ¬ count p := fun c => good (counts p c)
    exact ⟨_, by rw [hg p s hp c, loadRequest_armed slot tower ((hok p c).2 good) isArmed, ← loadFields_eq slot tower]⟩

theorem configureTower_checks : ChecksFieldsThenArmed configureTower
    (fun p => 1 < u8 p 2 ∨ (31 < u8 p 3 ∧ u8 p 3 ≠ 255) ∨ (31 < u8 p 4 ∧ u8 p 4 ≠ 255) ∨ 64 < u8 p 5
      ∨ u16 p 6 < 512 ∨ 2048 < u16 p 6 ∨ u16 p 8 < 1 ∨ 4095 < u16 p 8 ∨ 15 < u8 p 10 ∨ 15 < u8 p 11 ∨ 15 < u8 p 12)
    (fun _ => 13) :=
  checks_of_loadRequest (ok := configOk) (fun _ _ hp => if_neg (not_not.2 hp)) fun p => by
    simp only [configOk, isFlag, isCurveField, isPhaseField, Bool.and_eq_true, Bool.or_eq_true, decide_eq_true_eq, beq_iff_eq]
    omega

theorem setTargets_checks : ChecksFieldsThenArmed setTargets
    (fun p => 3000 < u16 p 2 ∨ 500 < u16 p 4 ∨ 500 < u16 p 6 ∨ u8 p 8 < 1 ∨ 16 < u8 p 8 ∨ 1000 < u16 p 10 ∨ 1 < u8 p 12)
    (fun _ => 13) :=
  checks_of_loadRequest (ok := targetsOk) (fun _ _ hp => if_neg (not_not.2 hp)) fun p => by
    simp only [targetsOk, isFlag, Bool.and_eq_true, decide_eq_true_eq]
    omega

theorem loadZoneMap_checks : ChecksFieldsThenArmed loadZoneMap
    (fun p => u8 p 2 < 8 ∨ 48 < u8 p 2 ∨ u16 p 5 < 16 ∨ 4096 < u16 p 5 ∨ 32768 < u16 p 3
      ∨ 32768 < u16 p 3 + u8 p 2 * u16 p 5)
    (fun _ => 7) :=
  checks_of_loadRequest (ok := mapOk) (fun _ _ hp => if_neg (not_not.2 hp)) fun p => by
    simp only [mapOk, Bool.and_eq_true, decide_eq_true_eq]
    omega

theorem setOffsets_checks : ChecksFieldsThenArmed setOffsets (fun p => 47 < u8 p 2 ∨ u8 p 3 < 1 ∨ 48 < u8 p 3)
    (fun p => 4 + 2 * u8 p 3) :=
  checks_of_count (count := fun p => u8 p 3 < 1 ∨ 48 < u8 p 3) (ok := fun p => u8 p 2 ≤ 47) (body := offsetsBody)
    (fun p s hp out => (if_neg (by omega)).trans (if_pos out))
    (fun p s hp fits => (if_neg (by omega)).trans ((if_neg fits).trans (if_neg (not_not.2 hp))))
    (fun p fits => by simp only [decide_eq_true_eq]; omega) (fun p out => .inr out)

theorem stripOpen_checks : ChecksFieldsThenArmed stripOpen (fun p => u16 p 2 < 1 ∨ 2048 < u16 p 2 ∨ 1 < u8 p 4) (fun _ => 5) :=
  checks_of_loadRequest (ok := openOk) (body := openBody) (refusal := fun p s => byte1 0 ++ byte1 s.buffersBound)
    (fun _ _ hp => if_neg (not_not.2 hp)) fun p => by
    simp only [openOk, isFlag, Bool.and_eq_true, decide_eq_true_eq]
    omega

theorem stripSegment_checks : ChecksFieldsThenArmed stripSegment (fun p => u8 p 4 < 1 ∨ 96 < u8 p 4) (fun p => 5 + 2 * u8 p 4) :=
  checks_of_count (count := fun p => u8 p 4 < 1 ∨ 96 < u8 p 4) (ok := fun _ => true) (body := segmentBody)
    (fun p s hp out => (if_neg (by omega)).trans (if_pos out))
    (fun p s hp fits => (if_neg (by omega)).trans ((if_neg fits).trans (if_neg (not_not.2 hp))))
    (fun p fits => by simp only [true_iff]; exact fits) (fun p out => out)

theorem stripClose_checks : ChecksFieldsThenArmed stripClose (fun _ => False) (fun _ => 2) :=
  checks_of_loadRequest (ok := fun _ => true) (body := fun _ => closeBody) (refusal := fun _ _ => [])
    (fun _ _ hp => if_neg (not_not.2 hp)) fun p => by simp

/-- The fields of R18 where the slot or the tower does not exist: the ready indication is carried as 0 (R160). -/
theorem loadFields_unnamed {p : List Byte} (out : 2 ≤ u8 p 0 ∨ 12 ≤ u8 p 1) (s : State) :
    loadFields p s = byte1 (u8 p 0) ++ byte1 (look s.jobs 0).num ++ byte1 (look s.jobs 1).num ++ byte1 (u8 p 1) ++ [0] := by
  have unready : s.readyNum (u8 p 0) (u8 p 1) = 0 := by
    unfold State.readyNum
    split
    · next j u slot tower =>
      obtain out | out := out
      · simp [slotOf_eq_none out] at slot
      · simp [towerOf_eq_none out] at tower
    · rfl
  simp [loadFields, unready, State.slotStates, byte1]

/-- A request whose handler checks fields and armed slot, in the terms of R17 and R18. -/
theorem takeRequest_checks {g : List Byte → State → Reply} {bad : List Byte → Prop} {len : List Byte → Nat}
    (checks : ChecksFieldsThenArmed g bad len) {k : RequestKind} {s : State} {f : Frame} {rest : List Frame}
    (waits : Waits s k f rest) (hp : f.payload.length = len f.payload) :
    let t := takeRequest k g s
    let refused := fun code fields => Answered s f rest code fields t ∧ OnlyChanges [.link] s t
    ((2 ≤ u8 f.payload 0 ∨ 12 ≤ u8 f.payload 1) →
      ∃ more, refused 3 (byte1 (u8 f.payload 0) ++ byte1 (look s.jobs 0).num ++ byte1 (look s.jobs 1).num
        ++ byte1 (u8 f.payload 1) ++ [0] ++ more))
    ∧ ∀ (j : SlotIdx) (u : TowerIdx), j.val = u8 f.payload 0 → u.val = u8 f.payload 1 →
      (bad f.payload → ∃ more, refused 3 (loadAnswer j u s ++ more))
      ∧ (¬ bad f.payload → (look s.jobs j).inRole .armed = true → ∃ more, refused 1 (loadAnswer j u s ++ more)) := by
  refine ⟨fun out => ?_, fun j u slot tower => ⟨fun isBad => ?_, fun good armed => ?_⟩⟩
  · obtain ⟨more, refused⟩ := checks.unnamed f.payload (s.taken rest) hp out
    rw [loadFields_unnamed out] at refused
    exact ⟨more, takeRequest_refused waits refused⟩
  · obtain ⟨more, refused⟩ := checks.fields f.payload (s.taken rest) hp isBad
    rw [loadFields_eq slot.symm tower.symm] at refused
    exact ⟨more, takeRequest_refused waits refused⟩
  · obtain ⟨more, refused⟩ := checks.armed f.payload (s.taken rest) j u hp slot.symm tower.symm good armed
    rw [loadFields_eq slot.symm tower.symm] at refused
    exact ⟨more, takeRequest_refused waits refused⟩

end Sys2Proof.Machine
end

section
/-! PROOF. Requests (chapter 9): answered once, unknown kinds and wrong lengths, fields and armed slots. -/

set_option Elab.async false

namespace Sys2Proof.Machine

/-- Settles O10: the request that waits is taken and answered with its handler's code, and no handler but that of Bridge Reset
changes the Link Controller. -/
theorem eachRequestIsAnsweredOnce : Obligations.EachRequestIsAnsweredOnce := by
  unfold Obligations.EachRequestIsAnsweredOnce
  intro c k request s
  rw [exec_request request]
  refine ⟨fun f rest waits => ?_, fun idle => by rw [takeRequest_of_not_waits idle]⟩
  have link := congrArg State.link (takeRequest_of_waits waits k.handler)
  rw [answer_link] at link
  have same : (k.handler f.payload (s.taken rest)).state.link.responses = s.link.responses
      ∧ (k.handler f.payload (s.taken rest)).state.link.ownAddress = s.link.ownAddress := by
    by_cases reset : k = .bridgeReset
    · subst reset
      simp only [RequestKind.handler, bridgeReset]
      split <;> exact ⟨rfl, rfl⟩
    · rw [handler_link reset]
      exact ⟨rfl, rfl⟩
  refine ⟨_, _, (k.handler f.payload (s.taken rest)).fields, rfl, ResultCode.num_le (handler_code k f.payload (s.taken rest)),
    ?_, ?_, fun live => ?_⟩
  · rw [link]
    simp only [responsesAfter, same.1, same.2]
  · rw [link, same.2]
  · have other : k ≠ .bridgeReset := by
      rintro rfl
      simp [requestCommands] at request
      exact live request
    rw [link, handler_link other]
    rfl

/-- Settles O11: no handler runs for an unknown kind, and every handler refuses a wrong length before anything else. -/
theorem unknownKindsAndWrongLengthsAreRefused : Obligations.UnknownKindsAndWrongLengthsAreRefused := by
  unfold Obligations.UnknownKindsAndWrongLengthsAreRefused
  refine ⟨fun s f rest queued room other => ?_, fun c k request s f rest waits => ?_⟩
  · have unknown : isRequestKind f.kind = false := by
      simp only [isRequestKind, List.any_eq_false, beq_iff_eq]
      exact fun k _ same => other k same.symm
    have taken : unknownRequest s = answer f .unknown [] (s.taken rest) := by
      simp [unknownRequest, headRequest, queued, room, unknown, Config.responseCap, State.taken]
    refine ⟨unknownRequest s, rfl, ?_, unknownRequest_frame s⟩
    rw [Answered, taken, answer_link]
    rfl
  · intro len count wrong isWrong
    have refused : k.wrongLength f.payload := by cases k <;> exact isWrong
    exact ⟨_, exec_request request s, takeRequest_refused waits (handler_wrongLength (s.taken rest) refused)⟩

/-- Settles O12: the seven handlers check their fields and the armed slot in the same two steps. -/
theorem loadRequestsCheckFieldsThenArmed : Obligations.LoadRequestsCheckFieldsThenArmed := by
  unfold Obligations.LoadRequestsCheckFieldsThenArmed
  intro c k bad len listed s f rest waits hp
  suffices ∃ g, exec c s = .next (takeRequest k g s) ∧ ChecksFieldsThenArmed g bad len by
    obtain ⟨g, ran, checks⟩ := this
    obtain ⟨unnamed, named⟩ := takeRequest_checks checks waits hp
    refine ⟨fun out => ?_, fun j u slot tower => ⟨fun isBad => ?_, fun good armed => ?_⟩⟩
    · obtain ⟨more, answered, frame⟩ := unnamed out
      exact ⟨_, more, ran, frame, answered⟩
    · obtain ⟨more, answered, frame⟩ := (named j u slot tower).1 isBad
      exact ⟨_, more, ran, answered, frame⟩
    · obtain ⟨more, answered, frame⟩ := (named j u slot tower).2 good armed
      exact ⟨_, more, ran, answered, frame⟩
  simp only [List.mem_cons, Prod.mk.injEq, List.not_mem_nil, or_false] at listed
  obtain ⟨rfl, rfl, rfl, rfl⟩ | ⟨rfl, rfl, rfl, rfl⟩ | ⟨rfl, rfl, rfl, rfl⟩ | ⟨rfl, rfl, rfl, rfl⟩ | ⟨rfl, rfl, rfl, rfl⟩
    | ⟨rfl, rfl, rfl, rfl⟩ | ⟨rfl, rfl, rfl, rfl⟩ := listed
  · exact ⟨configureTower, rfl, configureTower_checks⟩
  · exact ⟨setTargets, rfl, setTargets_checks⟩
  · exact ⟨loadZoneMap, rfl, loadZoneMap_checks⟩
  · exact ⟨setOffsets, rfl, setOffsets_checks⟩
  · exact ⟨stripOpen, rfl, stripOpen_checks⟩
  · exact ⟨stripSegment, rfl, stripSegment_checks⟩
  · exact ⟨stripClose, rfl, stripClose_checks⟩

end Sys2Proof.Machine
end

section
/-! SUPPORT. Frames read back from their bytes (R143), routing on Port U case by case (R146, R149), and what the two transmit
arbiters take (R137, R150, R151). -/

set_option Elab.async false

namespace Sys2Proof.Machine

/-! ### A good run of bytes is that of its frame (R143) -/

/-- Of a run with a header and of the size it gives, the header's length field is that of the payload. -/
theorem frameOf_bytes_of_good {bytes : List Byte} (good : ¬ Damaged bytes) :
    (frameOf bytes).bytes = bytes ∧ (frameOf bytes).payload.length ≤ 240 := by
  simp only [Damaged, not_or, not_lt, ne_eq, not_not] at good
  obtain ⟨long, fits, size, check⟩ := good
  have length : (frameOf bytes).payload.length = (bytes.getD 3 0).toNat := by
    simp only [frameOf, List.length_take, List.length_drop]
    omega
  have body : (frameOf bytes).body = bytes.take (bytes.length - 2) := by
    rw [Frame.body, length, BitVec.ofNat_toNat, BitVec.setWidth_eq]
    obtain ⟨dst, src, kind, len, rest, rfl⟩ := exists_header long
    have take : (dst :: src :: kind :: len :: rest).length - 2 = rest.length - 2 + 4 := by
      simp only [List.length_cons] at long ⊢
      omega
    rw [take]
    simp [frameOf]
  refine ⟨?_, length ▸ fits⟩
  rw [Frame.bytes, body, ← check, List.take_append_drop]

/-! ### Routing on Port U (R146) -/

section
variable {s : State} {f : Frame}

theorem placeRequest_room (f : Frame) (room : s.link.uReceive.length < 8) :
    placeRequest f s = s.setLink { s.link with uReceive := s.link.uReceive ++ [f] } := if_pos room

theorem placeRequest_full (f : Frame) (full : ¬ s.link.uReceive.length < 8) :
    placeRequest f s = raise .overrun none (.queue .u .uReceive) s := if_neg full

theorem placeDown_room (f : Frame) (room : s.link.downForward.length < 16) :
    placeDown f s = s.setLink { s.link with downForward := s.link.downForward ++ [f] } := if_pos room

theorem placeDown_full (f : Frame) (full : ¬ s.link.downForward.length < 16) :
    placeDown f s = raise .overrun none (.queue .u .downForward) s := if_neg full

theorem routeU_own (own : f.dst = s.link.ownAddress) : routeU f s = placeRequest f s := if_pos own

theorem routeU_broadcast (own : f.dst ≠ s.link.ownAddress) (broadcast : f.dst = 0x38) :
    routeU f s = placeDown f (placeRequest f s) := (if_neg own).trans (if_pos (f.isBroadcast_iff.2 broadcast))

theorem routeU_other (own : f.dst ≠ s.link.ownAddress) (broadcast : f.dst ≠ 0x38) : routeU f s = placeDown f s :=
  (if_neg own).trans (if_neg (mt f.isBroadcast_iff.1 broadcast))

end

/-- A frame is dropped at a full queue, or nothing happens. -/
def overrunIf (dropped : Prop) [Decidable dropped] (q : FrameQueue) (s : State) : State :=
  if dropped then raise .overrun none (.queue .u q) s else s

section
variable (s : State) (f : Frame)

theorem placeRequest_link : (placeRequest f s).link
    = { s.link with uReceive := if s.link.uReceive.length < 8 then s.link.uReceive ++ [f] else s.link.uReceive } := by
  by_cases room : s.link.uReceive.length < 8
  · rw [placeRequest_room f room, if_pos room, setLink_link]
  · rw [placeRequest_full f room, if_neg room, (raise_frame _ _ _ _).link]

theorem placeRequest_notice :
    (placeRequest f s).notice = (overrunIf (¬ s.link.uReceive.length < 8) .uReceive s).notice := by
  by_cases room : s.link.uReceive.length < 8
  · rw [placeRequest_room f room, overrunIf, if_neg (not_not.2 room), setLink_notice]
  · rw [placeRequest_full f room, overrunIf, if_pos room]

theorem placeDown_link : (placeDown f s).link
    = { s.link with
        downForward := if s.link.downForward.length < 16 then s.link.downForward ++ [f] else s.link.downForward } := by
  by_cases room : s.link.downForward.length < 16
  · rw [placeDown_room f room, if_pos room, setLink_link]
  · rw [placeDown_full f room, if_neg room, (raise_frame _ _ _ _).link]

theorem placeDown_notice :
    (placeDown f s).notice = (overrunIf (¬ s.link.downForward.length < 16) .downForward s).notice := by
  by_cases room : s.link.downForward.length < 16
  · rw [placeDown_room f room, overrunIf, if_neg (not_not.2 room), setLink_notice]
  · rw [placeDown_full f room, overrunIf, if_pos room]

/-- What an occurrence writes depends on the Notice Unit and the Sheet Count. -/
theorem raise_notice_congr {s t : State} (notice : t.notice = s.notice) (cycle : t.cycle = s.cycle) (k u d) :
    (raise k u d t).notice = (raise k u d s).notice := by
  simp [raise, notice, cycle]

theorem overrunIf_notice_congr {s t : State} (notice : t.notice = s.notice) (cycle : t.cycle = s.cycle) (dropped : Prop)
    [Decidable dropped] (q : FrameQueue) : (overrunIf dropped q t).notice = (overrunIf dropped q s).notice := by
  unfold overrunIf
  split
  · exact raise_notice_congr notice cycle ..
  · exact notice

theorem overrunIf_frame (dropped : Prop) [Decidable dropped] (q : FrameQueue) (s : State) :
    OnlyChanges [.notice] s (overrunIf dropped q s) := .ite (raise_frame _ _ _ _) (.refl _ s)

/-- Each copy is placed where its queue has room. -/
theorem routeU_link : (routeU f s).link = { s.link with
    uReceive := if (f.dst = s.link.ownAddress ∨ f.dst = 0x38) ∧ s.link.uReceive.length < 8 then s.link.uReceive ++ [f]
      else s.link.uReceive
    downForward := if f.dst ≠ s.link.ownAddress ∧ s.link.downForward.length < 16 then s.link.downForward ++ [f]
      else s.link.downForward } := by
  by_cases own : f.dst = s.link.ownAddress
  · rw [routeU_own own, placeRequest_link]
    simp [own]
  · by_cases broadcast : f.dst = 0x38#8
    · rw [routeU_broadcast own broadcast, placeDown_link, placeRequest_link]
      simp [broadcast ▸ own, broadcast]
    · rw [routeU_other own broadcast, placeDown_link]
      simp [own, broadcast]

/-- Each copy that finds its queue full is dropped with an OVERRUN, that of the U Receive Queue first (log entry 21). -/
theorem routeU_notice : (routeU f s).notice =
    (overrunIf (f.dst ≠ s.link.ownAddress ∧ ¬ s.link.downForward.length < 16) .downForward
      (overrunIf ((f.dst = s.link.ownAddress ∨ f.dst = 0x38) ∧ ¬ s.link.uReceive.length < 8) .uReceive s)).notice := by
  by_cases own : f.dst = s.link.ownAddress
  · rw [routeU_own own, placeRequest_notice]
    simp [own, overrunIf]
  · by_cases broadcast : f.dst = 0x38#8
    · rw [routeU_broadcast own broadcast, placeDown_notice, placeRequest_link,
        overrunIf_notice_congr (placeRequest_notice s f)
          ((placeRequest_frame f s).cycle.trans (overrunIf_frame _ _ _).cycle.symm)]
      simp [broadcast ▸ own, broadcast]
    · rw [routeU_other own broadcast, placeDown_notice]
      simp [own, broadcast, overrunIf]

end

/-- While RESET is not held, a whole frame on Port U is routed by R146. -/
theorem exec_portUFrameReceived_bytes {s : State} {f : Frame} (free : s.link.resetHeld = false)
    (fits : f.payload.length ≤ 240) : exec (.portUFrameReceived f.bytes) s = .next (routeU f s) :=
  congrArg Host.Outcome.next (receive_routed free (parseFrame_bytes fits) .u routeU)

/-! ### The notice turn (R136, R137) -/

/-- The best kind of a list is a sendable one of it, and no sendable one is better. -/
theorem bestKind_spec {s : State} {l : List (Fin 8)} (ascending : l.Pairwise (· < ·)) :
    (∀ k, bestKind s l = some k → k ∈ l ∧ s.sendable k = true
      ∧ ∀ m ∈ l, s.sendable m = true → look s.notice.priorities k < look s.notice.priorities m
          ∨ (look s.notice.priorities k = look s.notice.priorities m ∧ k ≤ m))
    ∧ (bestKind s l = none → ∀ m ∈ l, s.sendable m = false) := by
  induction l with
  | nil => simp [bestKind]
  | cons a rest ih =>
    obtain ⟨below, ascending⟩ := List.pairwise_cons.1 ascending
    obtain ⟨some', none'⟩ := ih ascending
    cases best : bestKind s rest with
    | none =>
      have idle := none' best
      cases sends : s.sendable a with
      | false => simpa [bestKind, best, sends] using idle
      | true =>
        simp only [bestKind, best, sends, if_true, Option.some.injEq, reduceCtorEq, false_implies, and_true]
        rintro k rfl
        refine ⟨List.mem_cons_self, sends, fun m hm sendable => ?_⟩
        obtain rfl | hm := List.mem_cons.1 hm
        · exact .inr ⟨rfl, le_rfl⟩
        · simp [idle m hm] at sendable
    | some b =>
      obtain ⟨member, sendsB, bestB⟩ := some' b best
      by_cases better : s.sendable a = true ∧ look s.notice.priorities a ≤ look s.notice.priorities b
      · have choice : bestKind s (a :: rest) = some a := by simp [bestKind, best, better]
        rw [choice]
        simp only [Option.some.injEq, reduceCtorEq, false_implies, and_true]
        rintro k rfl
        refine ⟨List.mem_cons_self, better.1, fun m hm sendable => ?_⟩
        obtain rfl | hm := List.mem_cons.1 hm
        · exact .inr ⟨rfl, le_rfl⟩
        · have first := (below m hm).le
          obtain less | ⟨same, -⟩ := bestB m hm sendable
          · exact .inl (better.2.trans_lt less)
          · obtain less | same' := (better.2.trans same.le).lt_or_eq
            · exact .inl less
            · exact .inr ⟨same', first⟩
      · have choice : bestKind s (a :: rest) = some b := by
          simp only [bestKind, best, Bool.and_eq_true, decide_eq_true_eq]
          rw [if_neg better]
        rw [choice]
        simp only [Option.some.injEq, reduceCtorEq, false_implies, and_true]
        rintro k rfl
        refine ⟨List.mem_cons_of_mem a member, sendsB, fun m hm sendable => ?_⟩
        obtain rfl | hm := List.mem_cons.1 hm
        · exact .inl (Nat.lt_of_not_le fun le => better ⟨sendable, le⟩)
        · exact bestB m hm sendable

theorem allKinds_ascending : allKinds.Pairwise (· < ·) := List.pairwise_lt_finRange 8

theorem mem_allKinds (k : Fin 8) : k ∈ allKinds := List.mem_finRange k

/-- A kind is sendable by R136: pending, enabled, with Notices Off clear and no Changeover Hold. -/
theorem sendable_iff {s : State} {k : Fin 8} :
    s.sendable k = true ↔ (∃ r, look s.notice.records k = some r) ∧ look s.notice.enabled k = true
      ∧ s.notice.off = false ∧ ∀ u, look s.cycle.hold u = false := by
  simp [State.sendable, State.held, Option.isSome_iff_exists, and_assoc]

theorem bestKind_eq_none {s : State} (idle : ∀ k, s.sendable k = false) : bestKind s allKinds = none := by
  by_contra some
  obtain ⟨k, hk⟩ := Option.ne_none_iff_exists'.1 some
  have sends := ((bestKind_spec allKinds_ascending).1 k hk).2.1
  simp [idle k] at sends

theorem bestKind_eq_some {s : State} {k : Fin 8} (sends : s.sendable k = true)
    (best : ∀ m, s.sendable m = true → look s.notice.priorities k < look s.notice.priorities m
      ∨ (look s.notice.priorities k = look s.notice.priorities m ∧ k ≤ m)) : bestKind s allKinds = some k := by
  obtain ⟨some', none'⟩ := bestKind_spec (s := s) allKinds_ascending
  cases chosen : bestKind s allKinds with
  | none => simp [none' chosen k (mem_allKinds k)] at sends
  | some b =>
    obtain ⟨-, sendsB, bestB⟩ := some' b chosen
    have one := best b sendsB
    have other := bestB k (mem_allKinds k) sends
    refine congrArg some (le_antisymm ?_ ?_)
    · omega
    · omega

end Sys2Proof.Machine
end

section
/-! PROOF. The Zone Link (chapter 9): frames read back, routing on Port U, the two transmit arbiters. -/

set_option Elab.async false

namespace Sys2Proof.Machine

/-- Settles O3: a run that is parsed is not damaged, and is then the run of the frame whose fields stand in it. -/
theorem framesReadBack : Obligations.FramesReadBack := by
  unfold Obligations.FramesReadBack
  refine ⟨fun f => parseFrame_bytes, fun bytes f parsed => ?_⟩
  have good : ¬ Damaged bytes := fun damaged => by simp [parseFrame_of_damaged damaged] at parsed
  obtain rfl := Option.some.inj ((parseFrame_of_not_damaged good).symm.trans parsed)
  exact frameOf_bytes_of_good good

/-- Settles O5: the three destinations of R146, each copy placed or dropped. -/
theorem portURoutesByDestination : Obligations.PortURoutesByDestination := by
  unfold Obligations.PortURoutesByDestination
  intro s f free _ fits toReceive toDown received forwarded
  rw [exec_portUFrameReceived_bytes free fits]
  have link := routeU_link s f
  have notice := routeU_notice s f
  refine ⟨routeU f s, rfl, (routeU_frame f s).mono (by simp), fun placed => ?_, fun not => ?_, fun placed => ?_, fun not => ?_,
    ?_, fun room room' => ?_, fun dest full room' => ?_, fun room dest full => ?_, fun dest full dest' full' => ?_⟩
  · rw [link]
    exact if_pos placed
  · rw [link]
    exact if_neg not
  · rw [link]
    exact if_pos placed
  · rw [link]
    exact if_neg not
  · rw [link]
  · rw [notice, overrunIf, if_neg fun h => h.2 (room' h.1).2, overrunIf, if_neg fun h => h.2 (room h.1).2]
  · rw [notice, overrunIf, if_neg fun h => h.2 (room' h.1).2, overrunIf, if_pos ⟨dest, fun r => full ⟨dest, r⟩⟩]
  · rw [notice, overrunIf, if_pos ⟨dest, fun r => full ⟨dest, r⟩⟩, overrunIf, if_neg fun h => h.2 (room h.1).2]
  · rw [notice, overrunIf, if_pos ⟨dest', fun r => full' ⟨dest', r⟩⟩, overrunIf, if_pos ⟨dest, fun r => full ⟨dest, r⟩⟩]

theorem noticeTurn_of_none {s : State} (h : bestKind s allKinds = none) :
    noticeTurn s = s.setLink { s.link with uTransmit := none } := by
  unfold noticeTurn
  rw [h]

theorem noticeTurn_of_some {s : State} {k : Fin 8} {r : NoticeRecord} (h : bestKind s allKinds = some k)
    (record : look s.notice.records k = some r) :
    noticeTurn s = (s.setNotice { s.notice with records := put s.notice.records k none }).setLink
      { s.link with uTransmit := some (noticeFrame s.link.ownAddress k r) } := by
  unfold noticeTurn
  simp only [h, record]

/-- Settles O8: the queues are served in the order of R150, and of the sendable kinds the best one has the notice turn. -/
theorem portUArbiterServesInOrder : Obligations.PortUArbiterServesInOrder := by
  unfold Obligations.PortUArbiterServesInOrder
  intro s
  refine ⟨fun f rest responses => ?_, fun f rest none forward => ?_, fun none none' => ?_⟩
  · exact congrArg Host.Outcome.next (by simp only [arbitrateU, responses])
  · exact congrArg Host.Outcome.next (by simp only [arbitrateU, none, forward])
  intro sendable
  refine ⟨fun idle => ?_, fun k r sends record best => ?_⟩
  · have chosen := bestKind_eq_none (s := s) fun k => Bool.eq_false_iff.2 fun sends => idle k (sendable_iff.1 sends)
    exact congrArg Host.Outcome.next (by simp only [arbitrateU, none, none', noticeTurn_of_none chosen])
  · have chosen := bestKind_eq_some (s := s) (sendable_iff.2 sends) fun m h => best m (sendable_iff.1 h)
    exact congrArg Host.Outcome.next (by
      simp only [arbitrateU, none, none', noticeTurn_of_some chosen record]
      rfl)

/-- Settles O9: the Drive Command Queue is served ahead of the Down Forward Queue, and a MOVE starts its zone's timer. -/
theorem portDArbiterServesInOrder : Obligations.PortDArbiterServesInOrder := by
  unfold Obligations.PortDArbiterServesInOrder
  intro s
  refine ⟨fun u z target tag rest queue => ?_, fun u v rest queue => ?_, fun none => ⟨fun f rest forward => ?_,
    fun none' => ?_⟩⟩
  · intro command
    have sent : arbitrateD s = sendDrive (.move u z target tag) rest s := by simp only [arbitrateD, queue]
    refine ⟨arbitrateD s, rfl, arbitrateD_frame s, ?_, ?_, ?_, fun v y other => ?_⟩
    · rw [sent]
      rfl
    · rw [sent]
      rfl
    · rw [sent]
      exact (putZone_zone ..).trans (if_pos ⟨rfl, rfl⟩)
    · rw [sent]
      exact (putZone_zone ..).trans (if_neg fun same => other (by rw [same.1, same.2]))
  · exact congrArg Host.Outcome.next (by simp only [arbitrateD, queue]; rfl)
  · exact congrArg Host.Outcome.next (by simp only [arbitrateD, none, forward])
  · exact congrArg Host.Outcome.next (by simp only [arbitrateD, none, none'])

end Sys2Proof.Machine
end

section
/-! SUPPORT. The Settle Watch test in the terms of the statements (R96), and what a handed-on Key Target does to its zone and to
the MOVEs of that zone in the Drive Command Queue (R74, R84, R85). -/

set_option Elab.async false

namespace Sys2Proof.Machine

/-! ### Motion states -/

theorem MotionState.inFlight_iff {m : MotionState} : m.inFlight = true ↔ m = .moving ∨ m = .retry := by
  cases m <;> simp [MotionState.inFlight]

/-- At rest is what the statements spell out as the three states that are not PENDING, MOVING or RETRY. -/
theorem MotionState.unsettled_eq_false {m : MotionState} :
    m.unsettled = false ↔ m = .noTarget ∨ m = .atTarget ∨ m = .faulted := by
  cases m <;> simp [MotionState.unsettled]

theorem atRest_iff {s : State} {u : TowerIdx} :
    s.atRest u = true ↔ ∀ z, (s.zone u z).state = .noTarget ∨ (s.zone u z).state = .atTarget ∨ (s.zone u z).state = .faulted := by
  simp [State.atRest, ← MotionState.unsettled_eq_false]

theorem atRest_congr {s t : State} {u : TowerIdx} (h : ∀ z, (t.zone u z).state.unsettled = (s.zone u z).state.unsettled) :
    t.atRest u = s.atRest u := by
  simp [State.atRest, h]

/-! ### The Settle Watch test (R96) -/

/-- Whether the Settle Watch test of a tower is satisfied. -/
def State.settles (s : State) (u : TowerIdx) : Bool := look s.motion.watch u && s.atRest u

theorem settleTest_kept {s : State} {u : TowerIdx} (h : s.settles u = false) : settleTest u s = s :=
  if_neg (Bool.eq_false_iff.1 h)

theorem settleTest_settled {s : State} {u : TowerIdx} (h : s.settles u = true) : settleTest u s
    = raise .settled (some u) (.tower u) (s.setMotion { s.motion with watch := put s.motion.watch u false }) := if_pos h

/-- The test writes the Settle Watches alone in the Motion Scheduler. -/
theorem settleTest_motion (u : TowerIdx) (s : State) :
    (settleTest u s).motion = { s.motion with watch := (settleTest u s).motion.watch } := by
  unfold settleTest
  split
  · rfl
  · rfl

/-- The test raises SETTLED at most. -/
theorem settleTest_records (u : TowerIdx) (s : State) {k : Fin 8} (h : k ≠ 7) :
    look (settleTest u s).notice.records k = look s.notice.records k := by
  unfold settleTest
  split
  · exact (raise_records ..).trans (if_neg h.symm)
  · rfl

theorem settleTest_controls (u : TowerIdx) (s : State) :
    (settleTest u s).notice = { s.notice with records := (settleTest u s).notice.records } := by
  unfold settleTest
  split
  · rfl
  · rfl

theorem settleTest_watch_le (u : TowerIdx) (s : State) {v : TowerIdx} (h : look (settleTest u s).motion.watch v = true) :
    look s.motion.watch v = true := by
  unfold settleTest at h
  split at h
  · have watch : look (put s.motion.watch u false) v = true := h
    rw [look_put] at watch
    split at watch
    · cases watch
    · exact watch
  · exact h

/-- The test on a state is what the statements call one on its motion states, watches and records. -/
theorem settleTest_settleTested (u : TowerIdx) (s : State) : SettleTested s (settleTest u s) u := by
  unfold SettleTested
  simp only [settleTest_zone, ← atRest_iff]
  cases settled : s.settles u with
  | true =>
    rw [settleTest_settled settled]
    have both : look s.motion.watch u = true ∧ s.atRest u = true := by simpa [State.settles] using settled
    exact ⟨fun _ => ⟨rfl, (raise_records ..).trans (if_pos rfl)⟩, fun not => absurd both not⟩
  | false =>
    rw [settleTest_kept settled]
    have none : ¬ (look s.motion.watch u = true ∧ s.atRest u = true) := by
      simpa [State.settles] using settled
    exact ⟨fun both => absurd both none, fun _ => ⟨rfl, rfl⟩⟩

/-- A test depends on the watches, the SETTLED record and the Sheet Count before it, and on which zones are at rest after it. -/
theorem SettleTested.congr {s s' t t' : State} {u : TowerIdx} (h : SettleTested s t u)
    (watch : s'.motion.watch = s.motion.watch) (record : look s'.notice.records 7 = look s.notice.records 7)
    (sheet : s'.cycle.sheetCount = s.cycle.sheetCount)
    (states : ∀ z, (t'.zone u z).state.unsettled = (t.zone u z).state.unsettled)
    (watch' : t'.motion.watch = t.motion.watch) (record' : look t'.notice.records 7 = look t.notice.records 7) :
    SettleTested s' t' u := by
  unfold SettleTested at h ⊢
  simp only [← MotionState.unsettled_eq_false] at h ⊢
  simpa only [watch, record, sheet, states, watch', record'] using h

/-! ### A change of motion state -/

theorem setMotionState_same {s : State} {u : TowerIdx} {z : ZoneIdx} {m : MotionState} (h : (s.zone u z).state = m) :
    setMotionState u z m s = s := if_pos h

theorem setMotionState_changed {s : State} {u : TowerIdx} {z : ZoneIdx} {m : MotionState} (h : (s.zone u z).state ≠ m) :
    setMotionState u z m s = settleTest u (s.putZone u z { s.zone u z with state := m }) := if_neg h

/-- A changed motion state writes the zone and, in its Settle Watch test, the watches. -/
theorem setMotionState_motion (u : TowerIdx) (z : ZoneIdx) (m : MotionState) (s : State) :
    (setMotionState u z m s).motion = { s.motion with
      zones := zput s.motion.zones u z { s.zone u z with state := m }, watch := (setMotionState u z m s).motion.watch } := by
  by_cases same : (s.zone u z).state = m
  · rw [setMotionState_same same]
    have zones : zput s.motion.zones u z { s.zone u z with state := m } = s.motion.zones := by
      refine zoneTable_ext fun v x => ?_
      rw [zlook_zput]
      split
      · next here => rw [← same, ← here.1, ← here.2]; rfl
      · rfl
    rw [zones]
  · rw [setMotionState_changed same, settleTest_motion]
    rfl

theorem setMotionState_queue (u : TowerIdx) (z : ZoneIdx) (m : MotionState) (s : State) :
    (setMotionState u z m s).motion.queue = s.motion.queue := by
  rw [setMotionState_motion]

theorem setMotionState_records (u : TowerIdx) (z : ZoneIdx) (m : MotionState) (s : State) {k : Fin 8} (h : k ≠ 7) :
    look (setMotionState u z m s).notice.records k = look s.notice.records k := by
  by_cases same : (s.zone u z).state = m
  · rw [setMotionState_same same]
  · rw [setMotionState_changed same, settleTest_records u _ h, putZone_notice]

theorem setMotionState_controls (u : TowerIdx) (z : ZoneIdx) (m : MotionState) (s : State) :
    (setMotionState u z m s).notice = { s.notice with records := (setMotionState u z m s).notice.records } := by
  by_cases same : (s.zone u z).state = m
  · rw [setMotionState_same same]
  · rw [setMotionState_changed same, settleTest_controls]
    rfl

theorem setMotionState_watch_le (u : TowerIdx) (z : ZoneIdx) (m : MotionState) (s : State) {v : TowerIdx}
    (h : look (setMotionState u z m s).motion.watch v = true) : look s.motion.watch v = true := by
  by_cases same : (s.zone u z).state = m
  · rwa [setMotionState_same same] at h
  · rw [setMotionState_changed same] at h
    exact settleTest_watch_le u (s.putZone u z { s.zone u z with state := m }) h

/-- A change of motion state is followed by its tower's Settle Watch test. -/
theorem setMotionState_settleTested {s : State} {u : TowerIdx} {z : ZoneIdx} {m : MotionState}
    (changed : (s.zone u z).state ≠ m) : SettleTested s (setMotionState u z m s) u := by
  rw [setMotionState_changed changed]
  exact (settleTest_settleTested u (s.putZone u z { s.zone u z with state := m })).congr rfl rfl rfl (fun _ => rfl) rfl rfl

/-! ### The MOVEs of a zone and the SWEEPs of a tower in the Drive Command Queue -/

/-- The MOVEs of a zone that stand in the Drive Command Queue. -/
def State.moves (s : State) (u : TowerIdx) (z : ZoneIdx) : List DriveEntry :=
  s.motion.queue.filter (DriveEntry.isMoveOf u z)

/-- The SWEEPs that stand in the Drive Command Queue. -/
def State.sweeps (s : State) : List DriveEntry := s.motion.queue.filter DriveEntry.isSweep

theorem moves_congr {s t : State} (h : t.motion.queue = s.motion.queue) (u : TowerIdx) (z : ZoneIdx) :
    t.moves u z = s.moves u z := by
  rw [State.moves, State.moves, h]

theorem sweeps_congr {s t : State} (h : t.motion.queue = s.motion.queue) : t.sweeps = s.sweeps := by
  rw [State.sweeps, State.sweeps, h]

theorem isMoveOf_iff {u : TowerIdx} {z : ZoneIdx} {e : DriveEntry} :
    e.isMoveOf u z = true ↔ ∃ g tag, e = .move u z g tag := by
  cases e with
  | move v x g tag => simp [DriveEntry.isMoveOf]
  | sweep v n => simp [DriveEntry.isMoveOf]

theorem isMoveOf_move (u v : TowerIdx) (z x : ZoneIdx) (g : Nat) (tag : BitVec 8) :
    (DriveEntry.move v x g tag).isMoveOf u z = decide (v = u ∧ x = z) := by
  by_cases hu : v = u <;> by_cases hz : x = z <;> simp [DriveEntry.isMoveOf, hu, hz]

theorem mem_moves {s : State} {u : TowerIdx} {z : ZoneIdx} {e : DriveEntry} :
    e ∈ s.moves u z ↔ e ∈ s.motion.queue ∧ ∃ g tag, e = .move u z g tag := by
  rw [State.moves, List.mem_filter, isMoveOf_iff]

theorem moveQueued_eq (s : State) (u : TowerIdx) (z : ZoneIdx) : s.moveQueued u z = !(s.moves u z).isEmpty := by
  rw [State.moveQueued, State.moves, Bool.eq_iff_iff]
  simp

theorem moveQueued_iff {s : State} {u : TowerIdx} {z : ZoneIdx} :
    s.moveQueued u z = true ↔ ∃ g tag, DriveEntry.move u z g tag ∈ s.motion.queue := by
  simp only [State.moveQueued, List.any_eq_true, isMoveOf_iff]
  constructor
  · rintro ⟨e, member, g, tag, rfl⟩
    exact ⟨g, tag, member⟩
  · rintro ⟨g, tag, member⟩
    exact ⟨_, member, g, tag, rfl⟩

/-- The MOVEs of a zone in a queue with one more MOVE at the tail. -/
theorem filter_append_move (q : List DriveEntry) (u v : TowerIdx) (z x : ZoneIdx) (g : Nat) (tag : BitVec 8) :
    (q ++ [DriveEntry.move v x g tag]).filter (DriveEntry.isMoveOf u z)
      = q.filter (DriveEntry.isMoveOf u z) ++ if v = u ∧ x = z then [.move v x g tag] else [] := by
  rw [List.filter_append, List.filter_singleton, isMoveOf_move]
  simp

theorem isMoveOf_retarget (u v : TowerIdx) (z x : ZoneIdx) (k : Nat) (e : DriveEntry) :
    (e.retarget v x k).isMoveOf u z = e.isMoveOf u z := by
  cases e with
  | move t y g tag => simp only [DriveEntry.retarget]; split <;> rfl
  | sweep t n => rfl

theorem isSweep_retarget (v : TowerIdx) (x : ZoneIdx) (k : Nat) (e : DriveEntry) : (e.retarget v x k).isSweep = e.isSweep := by
  cases e with
  | move t y g tag => simp only [DriveEntry.retarget]; split <;> rfl
  | sweep t n => rfl

theorem retarget_of_not {v : TowerIdx} {x : ZoneIdx} {k : Nat} {e : DriveEntry} (h : e.isMoveOf v x = false) :
    e.retarget v x k = e := by
  cases e with
  | move t y g tag =>
    have other : ¬ ((t == v && y == x) = true) := by simpa [DriveEntry.isMoveOf] using h
    simp only [DriveEntry.retarget, if_neg other]
  | sweep t n => rfl

/-- The MOVEs of a zone in a queue in which those of one zone have been given a new target. -/
theorem filter_map_retarget (q : List DriveEntry) (u v : TowerIdx) (z x : ZoneIdx) (k : Nat) :
    (q.map (DriveEntry.retarget v x k)).filter (DriveEntry.isMoveOf u z)
      = if v = u ∧ x = z then (q.filter (DriveEntry.isMoveOf u z)).map (DriveEntry.retarget v x k)
        else q.filter (DriveEntry.isMoveOf u z) := by
  have same : DriveEntry.isMoveOf u z ∘ DriveEntry.retarget v x k = DriveEntry.isMoveOf u z :=
    funext fun e => isMoveOf_retarget u v z x k e
  rw [List.filter_map, same]
  split
  · rfl
  · next other =>
    refine (List.map_congr_left fun e member => ?_).trans (List.map_id _)
    obtain ⟨g, tag, rfl⟩ := isMoveOf_iff.1 (List.mem_filter.1 member).2
    exact retarget_of_not ((isMoveOf_move ..).trans (decide_eq_false fun here => other ⟨here.1.symm, here.2.symm⟩))

theorem filter_sweep_map_retarget (q : List DriveEntry) (v : TowerIdx) (x : ZoneIdx) (k : Nat) :
    (q.map (DriveEntry.retarget v x k)).filter DriveEntry.isSweep = q.filter DriveEntry.isSweep := by
  have same : DriveEntry.isSweep ∘ DriveEntry.retarget v x k = DriveEntry.isSweep :=
    funext fun e => isSweep_retarget v x k e
  rw [List.filter_map, same]
  refine (List.map_congr_left fun e member => ?_).trans (List.map_id _)
  cases e with
  | move t y g tag => simp [DriveEntry.isSweep] at member
  | sweep t n => rfl

/-! ### A handed-on Key Target case by case (R74) -/

/-- The zone is waiting or resting, so that a Key Target handed on sets its motion state by the deadband (R74). -/
def MotionState.resting : MotionState → Bool
  | .noTarget => true
  | .atTarget => true
  | .pending => true
  | .moving => false
  | .retry => false
  | .faulted => false

/-- Whether a zone in MOVING or RETRY takes a Key Retarget to `k` (R74, R86). -/
def State.retargets (s : State) (u : TowerIdx) (z : ZoneIdx) (k : Nat) : Prop :=
  (s.zone u z).state.inFlight = true ∧ (s.zone u z).commanded ≠ some k ∧ s.mayMove u = true

section
variable {s : State} {u : TowerIdx} {z : ZoneIdx} {k : Nat}

theorem handTarget_resting (h : (s.zone u z).state.resting = true) :
    handTarget u z k s = setMotionState u z (if s.withinDeadband u z k then .atTarget else .pending) s := by
  cases m : (s.zone u z).state <;> simp_all [handTarget, MotionState.resting]

theorem handTarget_retargets (h : s.retargets u z k) : handTarget u z k s = keyRetarget u z k s := by
  obtain ⟨flight, commanded, phase⟩ := h
  obtain m | m := MotionState.inFlight_iff.1 flight
  · simp [handTarget, m, commanded, phase]
  · simp [handTarget, m, commanded, phase]

theorem handTarget_kept (rest : (s.zone u z).state.resting = false) (h : ¬ s.retargets u z k) : handTarget u z k s = s := by
  unfold State.retargets at h
  cases m : (s.zone u z).state <;> simp_all [handTarget, MotionState.resting, MotionState.inFlight]

theorem keyRetarget_queued (h : s.moveQueued u z = true) : keyRetarget u z k s = s.setMotion { s.motion with
    zones := zput s.motion.zones u z { s.zone u z with commanded := some k, timer := none }
    queue := s.motion.queue.map (DriveEntry.retarget u z k) } := if_pos h

theorem keyRetarget_sent (h : s.moveQueued u z = false) : keyRetarget u z k s = s.setMotion { s.motion with
    zones := zput s.motion.zones u z { s.zone u z with commanded := some k, timer := none, tag := (s.zone u z).tag + 1 }
    queue := s.motion.queue ++ [.move u z k ((s.zone u z).tag + 1)] } := if_neg (Bool.eq_false_iff.1 h)

/-- The four ways in which a handed-on Key Target acts (R74, R84, R85): by the deadband, in place of the queued MOVE, by a new
MOVE, or not at all. -/
theorem handTarget_cases (u : TowerIdx) (z : ZoneIdx) (k : Nat) (s : State) :
    ((s.zone u z).state.resting = true
        ∧ handTarget u z k s = setMotionState u z (if s.withinDeadband u z k then .atTarget else .pending) s)
    ∨ ((s.zone u z).state.resting = false ∧ s.retargets u z k ∧ s.moveQueued u z = true
        ∧ handTarget u z k s = s.setMotion { s.motion with
            zones := zput s.motion.zones u z { s.zone u z with commanded := some k, timer := none }
            queue := s.motion.queue.map (DriveEntry.retarget u z k) })
    ∨ ((s.zone u z).state.resting = false ∧ s.retargets u z k ∧ s.moveQueued u z = false
        ∧ handTarget u z k s = s.setMotion { s.motion with
            zones := zput s.motion.zones u z
              { s.zone u z with commanded := some k, timer := none, tag := (s.zone u z).tag + 1 }
            queue := s.motion.queue ++ [.move u z k ((s.zone u z).tag + 1)] })
    ∨ ((s.zone u z).state.resting = false ∧ ¬ s.retargets u z k ∧ handTarget u z k s = s) := by
  cases rest : (s.zone u z).state.resting with
  | true => exact .inl ⟨rfl, handTarget_resting rest⟩
  | false =>
    refine .inr ?_
    by_cases h : s.retargets u z k
    · cases queued : s.moveQueued u z with
      | true => exact .inl ⟨rfl, h, rfl, (handTarget_retargets h).trans (keyRetarget_queued queued)⟩
      | false => exact .inr (.inl ⟨rfl, h, rfl, (handTarget_retargets h).trans (keyRetarget_sent queued)⟩)
    · exact .inr (.inr ⟨rfl, h, handTarget_kept rest h⟩)

end

/-! ### The zone and its MOVEs after a hand-on -/

/-- What a handed-on Key Target `k` makes of a zone's motion fields and of the MOVEs of the zone in the queue, given whether the
position is within the deadband of it and whether the tower may move in the Press Phase (R74, R84, R85). -/
def handedFields (u : TowerIdx) (z : ZoneIdx) (k : Nat) (near inPhase : Bool) (w : MotionZone) (q : List DriveEntry) :
    MotionZone × List DriveEntry :=
  if w.state.resting then ({ w with state := if near then .atTarget else .pending }, q)
  else if w.state.inFlight ∧ w.commanded ≠ some k ∧ inPhase then
    if q.isEmpty then ({ w with commanded := some k, timer := none, tag := w.tag + 1 }, [.move u z k (w.tag + 1)])
    else ({ w with commanded := some k, timer := none }, q.map (DriveEntry.retarget u z k))
  else (w, q)

theorem setMotion_zone (s : State) (x : Motion) (u : TowerIdx) (z : ZoneIdx) :
    (s.setMotion x).zone u z = zlook x.zones u z := rfl

theorem setMotion_moves (s : State) (x : Motion) (u : TowerIdx) (z : ZoneIdx) :
    (s.setMotion x).moves u z = x.queue.filter (DriveEntry.isMoveOf u z) := rfl

theorem handTarget_fields (u : TowerIdx) (z : ZoneIdx) (k : Nat) (s : State) :
    ((handTarget u z k s).zone u z, (handTarget u z k s).moves u z)
      = handedFields u z k (s.withinDeadband u z k) (s.mayMove u) (s.zone u z) (s.moves u z) := by
  have queue := moveQueued_eq s u z
  unfold handedFields
  obtain ⟨rest, h⟩ | ⟨rest, retargets, queued, h⟩ | ⟨rest, retargets, queued, h⟩ | ⟨rest, kept, h⟩ := handTarget_cases u z k s
  · rw [h, if_pos rest, setMotionState_zone, moves_congr (setMotionState_queue ..), if_pos ⟨rfl, rfl⟩]
  · rw [queued] at queue
    have some : ¬ ((s.moves u z).isEmpty = true) := by simpa using queue.symm
    rw [h, if_neg (by simp [rest]), if_pos (by simpa [State.retargets] using retargets), if_neg some, setMotion_zone,
      setMotion_moves, zlook_zput, if_pos ⟨rfl, rfl⟩, filter_map_retarget, if_pos ⟨rfl, rfl⟩]
    rfl
  · rw [queued] at queue
    have none : (s.moves u z).isEmpty = true := by simpa using queue.symm
    have empty : s.motion.queue.filter (DriveEntry.isMoveOf u z) = [] := List.isEmpty_iff.1 none
    rw [h, if_neg (by simp [rest]), if_pos (by simpa [State.retargets] using retargets), if_pos none, setMotion_zone,
      setMotion_moves, zlook_zput, if_pos ⟨rfl, rfl⟩, filter_append_move, if_pos ⟨rfl, rfl⟩, empty]
    rfl
  · rw [h, if_neg (by simp [rest]), if_neg (by simpa [State.retargets] using kept)]

theorem handTarget_zone_eq (u : TowerIdx) (z : ZoneIdx) (k : Nat) (s : State) : (handTarget u z k s).zone u z
    = (handedFields u z k (s.withinDeadband u z k) (s.mayMove u) (s.zone u z) (s.moves u z)).1 :=
  congrArg Prod.fst (handTarget_fields u z k s)

theorem handTarget_moves_eq (u : TowerIdx) (z : ZoneIdx) (k : Nat) (s : State) : (handTarget u z k s).moves u z
    = (handedFields u z k (s.withinDeadband u z k) (s.mayMove u) (s.zone u z) (s.moves u z)).2 :=
  congrArg Prod.snd (handTarget_fields u z k s)

/-- A hand-on leaves every other zone and the MOVEs of it. -/
theorem handTarget_other {u v : TowerIdx} {z x : ZoneIdx} (other : ¬ (u = v ∧ z = x)) (k : Nat) (s : State) :
    (handTarget u z k s).zone v x = s.zone v x ∧ (handTarget u z k s).moves v x = s.moves v x := by
  obtain ⟨-, h⟩ | ⟨-, -, -, h⟩ | ⟨-, -, -, h⟩ | ⟨-, -, h⟩ := handTarget_cases u z k s
  · rw [h, setMotionState_zone, moves_congr (setMotionState_queue ..), if_neg other]
    exact ⟨rfl, rfl⟩
  · rw [h, setMotion_zone, setMotion_moves, zlook_zput, filter_map_retarget, if_neg other, if_neg other]
    exact ⟨rfl, rfl⟩
  · rw [h, setMotion_zone, setMotion_moves, zlook_zput, filter_append_move, if_neg other, if_neg other, List.append_nil]
    exact ⟨rfl, rfl⟩
  · rw [h]
    exact ⟨rfl, rfl⟩

end Sys2Proof.Machine
end

section
/-! SUPPORT. What every hand-on of Key Targets keeps (R74, R75), and folds of hand-ons over zones: each zone is left as by the
one hand-on that concerns it. -/

set_option Elab.async false

namespace Sys2Proof.Machine

/-! ### The MOVEs of a zone agree with its motion fields (R76, R91) -/

/-- At most one MOVE of the zone is queued, and that with the zone in MOVING or RETRY, its outstanding tag, its commanded target
and its timer stopped; the timer runs only in MOVING and RETRY. -/
def QueuedMove (u : TowerIdx) (z : ZoneIdx) (w : MotionZone) (q : List DriveEntry) : Prop :=
  (q = [] ∨ ∃ g, q = [.move u z g w.tag] ∧ w.state.inFlight = true ∧ w.commanded = some g ∧ w.timer = none)
    ∧ (w.timer ≠ none → w.state.inFlight = true)

theorem MotionState.resting_not_inFlight {m : MotionState} (h : m.resting = true) : m.inFlight = false := by
  cases m <;> simp_all [MotionState.resting, MotionState.inFlight]

section
variable {u : TowerIdx} {z : ZoneIdx} {w : MotionZone} {q : List DriveEntry}

/-- A zone that is not in MOVING or RETRY has no MOVE queued and no timer running. -/
theorem QueuedMove.of_resting (h : QueuedMove u z w q) (rest : w.state.inFlight = false) : q = [] ∧ w.timer = none := by
  obtain ⟨queued, timer⟩ := h
  constructor
  · obtain none | ⟨g, -, flight, -⟩ := queued
    · exact none
    · simp [rest] at flight
  · by_contra running
    simp [timer running] at rest

/-- A zone whose timer is stopped and that has no MOVE queued agrees with the queue in every state. -/
theorem queuedMove_nil (timer : w.timer = none) : QueuedMove u z w [] := ⟨.inl rfl, fun running => absurd timer running⟩

theorem handedFields_queuedMove (h : QueuedMove u z w q) (k : Nat) (near inPhase : Bool) :
    QueuedMove u z (handedFields u z k near inPhase w q).1 (handedFields u z k near inPhase w q).2 := by
  unfold handedFields
  split
  · next rest =>
    obtain ⟨rfl, timer⟩ := h.of_resting (MotionState.resting_not_inFlight rest)
    exact queuedMove_nil timer
  · split
    · next retarget =>
      split
      · exact ⟨.inr ⟨k, rfl, retarget.1, rfl, rfl⟩, fun running => absurd rfl running⟩
      · next some =>
        obtain ⟨none | ⟨g, rfl, -⟩, -⟩ := h
        · simp [none] at some
        · exact ⟨.inr ⟨k, by simp [DriveEntry.retarget], retarget.1, rfl, rfl⟩, fun running => absurd rfl running⟩
    · exact h

/-- A hand-on keeps whether the zone holds an in-flight place. -/
theorem handedFields_inFlight (k : Nat) (near inPhase : Bool) :
    (handedFields u z k near inPhase w q).1.state.inFlight = w.state.inFlight := by
  unfold handedFields
  split
  · next rest =>
    rw [MotionState.resting_not_inFlight rest]
    split <;> rfl
  · split
    · split <;> rfl
    · rfl

/-- A hand-on keeps the position and settle-until. -/
theorem handedFields_fixed (k : Nat) (near inPhase : Bool) :
    (handedFields u z k near inPhase w q).1.actual = w.actual
      ∧ (handedFields u z k near inPhase w q).1.settleUntil = w.settleUntil := by
  unfold handedFields
  split
  · exact ⟨rfl, rfl⟩
  · split
    · split
      · exact ⟨rfl, rfl⟩
      · exact ⟨rfl, rfl⟩
    · exact ⟨rfl, rfl⟩

end

/-! ### What a hand-on keeps -/

/-- `t` comes from `s` by hand-ons of Key Targets to the Motion Scheduler: what none of them changes, and that each keeps the
MOVEs in agreement with the zones. -/
structure Handing (s t : State) : Prop where
  frame : OnlyChanges [.engine, .motion, .notice] s t
  passes : t.engine.passes = s.engine.passes
  motion : t.motion = { s.motion with zones := t.motion.zones, queue := t.motion.queue, watch := t.motion.watch }
  controls : t.notice = { s.notice with records := t.notice.records }
  records : ∀ k, k ≠ 7 → look t.notice.records k = look s.notice.records k
  watch : ∀ u, look t.motion.watch u = true → look s.motion.watch u = true
  sweeps : t.sweeps = s.sweeps
  inFlight : ∀ u z, (t.zone u z).state.inFlight = (s.zone u z).state.inFlight
  fixed : ∀ u z, (t.zone u z).actual = (s.zone u z).actual ∧ (t.zone u z).settleUntil = (s.zone u z).settleUntil
  moves : ∀ u z, QueuedMove u z (s.zone u z) (s.moves u z) → QueuedMove u z (t.zone u z) (t.moves u z)

theorem Handing.refl (s : State) : Handing s s where
  frame := .refl _ s
  passes := rfl
  motion := rfl
  controls := rfl
  records _ _ := rfl
  watch _ h := h
  sweeps := rfl
  inFlight _ _ := rfl
  fixed _ _ := ⟨rfl, rfl⟩
  moves _ _ h := h

theorem Handing.trans {s t r : State} (h : Handing s t) (h' : Handing t r) : Handing s r where
  frame := h.frame.trans h'.frame
  passes := h'.passes.trans h.passes
  motion := by rw [h'.motion, h.motion]
  controls := by rw [h'.controls, h.controls]
  records k hk := (h'.records k hk).trans (h.records k hk)
  watch u hu := h.watch u (h'.watch u hu)
  sweeps := h'.sweeps.trans h.sweeps
  inFlight u z := (h'.inFlight u z).trans (h.inFlight u z)
  fixed u z := ⟨(h'.fixed u z).1.trans (h.fixed u z).1, (h'.fixed u z).2.trans (h.fixed u z).2⟩
  moves u z hs := h'.moves u z (h.moves u z hs)

theorem Handing.foldl {ι : Type} {f : ι → State → State} (h : ∀ i s, Handing s (f i s)) (l : List ι) (s : State) :
    Handing s (l.foldl (fun s i => f i s) s) := by
  induction l generalizing s with
  | nil => exact .refl s
  | cons i l ih => exact (h i s).trans (ih (f i s))

/-- A write of E, B and K alone. -/
theorem Handing.of_targets {s t : State} (frame : OnlyChanges [.engine] s t) (passes : t.engine.passes = s.engine.passes) :
    Handing s t where
  frame := frame.mono (by decide)
  passes := passes
  motion := by rw [frame.motion]
  controls := by rw [frame.notice]
  records k _ := by rw [frame.notice]
  watch u h := frame.motion ▸ h
  sweeps := sweeps_congr (congrArg Motion.queue frame.motion)
  inFlight u z := by rw [zone_congr frame.motion]
  fixed u z := by rw [zone_congr frame.motion]; exact ⟨rfl, rfl⟩
  moves u z h := by rwa [zone_congr frame.motion, moves_congr (congrArg Motion.queue frame.motion)]

theorem putTarget_handing (u : TowerIdx) (z : ZoneIdx) (g : Option Target) (s : State) : Handing s (s.putTarget u z g) :=
  .of_targets (putTarget_frame s u z g) rfl

theorem dropTargets_handing (p : TowerIdx → ZoneIdx → Bool) (s : State) : Handing s (dropTargets p s) :=
  .of_targets (dropTargets_frame p s) rfl

/-- A change of motion state that takes and gives no in-flight place. -/
theorem setMotionState_handing {s : State} {u : TowerIdx} {z : ZoneIdx} {m : MotionState}
    (flight : m.inFlight = (s.zone u z).state.inFlight) : Handing s (setMotionState u z m s) where
  frame := (setMotionState_frame u z m s).mono (by decide)
  passes := by rw [(setMotionState_frame u z m s).engine]
  motion := by rw [setMotionState_motion]
  controls := setMotionState_controls u z m s
  records _ h := setMotionState_records u z m s h
  watch _ h := setMotionState_watch_le u z m s h
  sweeps := sweeps_congr (setMotionState_queue u z m s)
  inFlight v x := by
    rw [setMotionState_zone]
    split
    · next here => rw [← here.1, ← here.2, ← flight]
    · rfl
  fixed v x := by
    rw [setMotionState_zone]
    split
    · next here => rw [← here.1, ← here.2]; exact ⟨rfl, rfl⟩
    · exact ⟨rfl, rfl⟩
  moves v x h := by
    rw [setMotionState_zone, moves_congr (setMotionState_queue u z m s)]
    split
    · next here =>
      obtain ⟨rfl, rfl⟩ := here
      obtain ⟨none | ⟨g, one, inFlight, commanded, timer⟩, running⟩ := h
      · exact ⟨.inl none, fun h => flight.trans (running h)⟩
      · exact ⟨.inr ⟨g, one, flight.trans inFlight, commanded, timer⟩, fun h => flight.trans (running h)⟩
    · exact h

theorem handTarget_motion (u : TowerIdx) (z : ZoneIdx) (k : Nat) (s : State) : (handTarget u z k s).motion
    = { s.motion with
        zones := (handTarget u z k s).motion.zones, queue := (handTarget u z k s).motion.queue
        watch := (handTarget u z k s).motion.watch } := by
  obtain ⟨-, h⟩ | ⟨-, -, -, h⟩ | ⟨-, -, -, h⟩ | ⟨-, -, h⟩ := handTarget_cases u z k s
  · rw [h, setMotionState_motion]
  · rw [h, setMotion_motion]
  · rw [h, setMotion_motion]
  · rw [h]

/-- A hand-on that leaves the zone's motion state leaves the watches and raises nothing. -/
theorem handTarget_kept_state {u : TowerIdx} {z : ZoneIdx} {k : Nat} {s : State}
    (same : ((handTarget u z k s).zone u z).state = (s.zone u z).state) :
    (handTarget u z k s).motion.watch = s.motion.watch ∧ (handTarget u z k s).notice = s.notice := by
  obtain ⟨-, h⟩ | ⟨-, -, -, h⟩ | ⟨-, -, -, h⟩ | ⟨-, -, h⟩ := handTarget_cases u z k s
  · rw [h, setMotionState_zone, if_pos ⟨rfl, rfl⟩] at same
    rw [h, setMotionState_same same.symm]
    exact ⟨rfl, rfl⟩
  · rw [h]
    exact ⟨rfl, rfl⟩
  · rw [h]
    exact ⟨rfl, rfl⟩
  · rw [h]
    exact ⟨rfl, rfl⟩

/-- A hand-on that changes the zone's motion state is followed by the tower's Settle Watch test (R96). -/
theorem handTarget_settleTested {u : TowerIdx} {z : ZoneIdx} {k : Nat} {s : State}
    (changed : ((handTarget u z k s).zone u z).state ≠ (s.zone u z).state) : SettleTested s (handTarget u z k s) u := by
  obtain ⟨-, h⟩ | ⟨-, -, -, h⟩ | ⟨-, -, -, h⟩ | ⟨-, -, h⟩ := handTarget_cases u z k s
  · rw [h, setMotionState_zone, if_pos ⟨rfl, rfl⟩] at changed
    rw [h]
    exact setMotionState_settleTested (Ne.symm changed)
  · rw [h, setMotion_zone, zlook_zput, if_pos ⟨rfl, rfl⟩] at changed
    exact absurd rfl changed
  · rw [h, setMotion_zone, zlook_zput, if_pos ⟨rfl, rfl⟩] at changed
    exact absurd rfl changed
  · rw [h] at changed
    exact absurd rfl changed

theorem handTarget_handing (u : TowerIdx) (z : ZoneIdx) (k : Nat) (s : State) : Handing s (handTarget u z k s) := by
  have blocks := handTarget_frame u z k s
  have zones : ∀ v x, (handTarget u z k s).zone v x = s.zone v x ∧ (handTarget u z k s).moves v x = s.moves v x
      ∨ u = v ∧ z = x := fun v x => or_iff_not_imp_right.2 fun other => handTarget_other other k s
  have notices : (handTarget u z k s).notice = { s.notice with records := (handTarget u z k s).notice.records }
      ∧ (∀ i, i ≠ 7 → look (handTarget u z k s).notice.records i = look s.notice.records i)
      ∧ (∀ v, look (handTarget u z k s).motion.watch v = true → look s.motion.watch v = true)
      ∧ (handTarget u z k s).sweeps = s.sweeps := by
    obtain ⟨-, h⟩ | ⟨-, -, -, h⟩ | ⟨-, -, -, h⟩ | ⟨-, -, h⟩ := handTarget_cases u z k s
    · rw [h]
      exact ⟨setMotionState_controls .., fun _ => setMotionState_records _ _ _ _, fun _ => setMotionState_watch_le _ _ _ _,
        sweeps_congr (setMotionState_queue ..)⟩
    · rw [h]
      exact ⟨rfl, fun _ _ => rfl, fun _ h => h, filter_sweep_map_retarget ..⟩
    · rw [h]
      exact ⟨rfl, fun _ _ => rfl, fun _ h => h, by simp [State.sweeps, DriveEntry.isSweep]⟩
    · rw [h]
      exact ⟨rfl, fun _ _ => rfl, fun _ h => h, rfl⟩
  obtain ⟨controls, records, watch, sweeps⟩ := notices
  refine ⟨blocks.mono (by decide), by rw [blocks.engine], handTarget_motion .., controls, records, watch, sweeps,
    fun v x => ?_, fun v x => ?_, fun v x h => ?_⟩
  · obtain ⟨zone, -⟩ | ⟨rfl, rfl⟩ := zones v x
    · rw [zone]
    · rw [handTarget_zone_eq, handedFields_inFlight]
  · obtain ⟨zone, -⟩ | ⟨rfl, rfl⟩ := zones v x
    · rw [zone]
      exact ⟨rfl, rfl⟩
    · rw [handTarget_zone_eq]
      exact handedFields_fixed ..
  · obtain ⟨zone, moves⟩ | ⟨rfl, rfl⟩ := zones v x
    · rwa [zone, moves]
    · rw [handTarget_zone_eq, handTarget_moves_eq]
      exact handedFields_queuedMove h ..

theorem MotionState.withoutTarget_inFlight (m : MotionState) : m.withoutTarget.inFlight = m.inFlight := by
  cases m <;> rfl

theorem withdrawTarget_handing (u : TowerIdx) (z : ZoneIdx) (s : State) : Handing s (withdrawTarget u z s) :=
  setMotionState_handing (MotionState.withoutTarget_inFlight _)

theorem rewriteTarget_handing (u : TowerIdx) (z : ZoneIdx) (g : Target) (k : Nat) (s : State) :
    Handing s (rewriteTarget u z g k s) := (putTarget_handing ..).trans (handTarget_handing ..)

theorem zoneUpdate_handing (u : TowerIdx) (z : ZoneIdx) (s : State) : Handing s (zoneUpdate u z s) := by
  unfold zoneUpdate
  split
  · exact .refl s
  · split
    · exact rewriteTarget_handing ..
    · exact .refl s

theorem clampTarget_handing (u : TowerIdx) (keyMax : Nat) (z : ZoneIdx) (s : State) :
    Handing s (clampTarget u keyMax z s) := by
  unfold clampTarget
  split
  · exact .refl s
  · split
    · exact rewriteTarget_handing ..
    · exact .refl s

theorem zoneUpdates_handing (u : TowerIdx) (zs : List ZoneIdx) (s : State) : Handing s (zoneUpdates u zs s) :=
  .foldl (fun z s => zoneUpdate_handing u z s) zs s

theorem clampTargets_handing (u : TowerIdx) (keyMax : Nat) (s : State) : Handing s (clampTargets u keyMax s) :=
  .foldl (fun z s => clampTarget_handing u keyMax z s) allZones s

theorem withdrawTargets_handing (u : TowerIdx) (zs : List ZoneIdx) (s : State) : Handing s (withdrawTargets u zs s) :=
  .foldl (fun z s => withdrawTarget_handing u z s) zs s

/-! ### Hand-ons at one zone, and folds of them -/

/-- The zone, its E, B and K and its MOVEs in the queue are the same in both states. -/
structure SameAt (s t : State) (u : TowerIdx) (z : ZoneIdx) : Prop where
  zone : t.zone u z = s.zone u z
  target : t.targetOf u z = s.targetOf u z
  moves : t.moves u z = s.moves u z

theorem SameAt.refl (s : State) (u : TowerIdx) (z : ZoneIdx) : SameAt s s u z := ⟨rfl, rfl, rfl⟩

theorem SameAt.symm {s t : State} {u : TowerIdx} {z : ZoneIdx} (h : SameAt s t u z) : SameAt t s u z :=
  ⟨h.zone.symm, h.target.symm, h.moves.symm⟩

theorem SameAt.trans {s t r : State} {u : TowerIdx} {z : ZoneIdx} (h : SameAt s t u z) (h' : SameAt t r u z) :
    SameAt s r u z := ⟨h'.zone.trans h.zone, h'.target.trans h.target, h'.moves.trans h.moves⟩

/-- What a hand-on reads beside its zone: the settings in force, the Press Phase, the passes and the trims. -/
structure SameContext (s t : State) : Prop where
  jobs : t.jobs = s.jobs
  cycle : t.cycle = s.cycle
  passes : t.engine.passes = s.engine.passes
  trim : t.trim = s.trim

theorem Handing.context {s t : State} (h : Handing s t) : SameContext s t :=
  ⟨h.frame.jobs, h.frame.cycle, h.passes, h.frame.trim⟩

/-- An operation made of hand-ons acts on the zones of `p` alone, and on each of them by what stands at the zones of `p`. -/
structure Locally (p : TowerIdx → ZoneIdx → Prop) (f : State → State) : Prop where
  handing : ∀ s, Handing s (f s)
  outside : ∀ s u z, ¬ p u z → SameAt s (f s) u z
  inside : ∀ s t, SameContext s t → (∀ u z, p u z → SameAt s t u z) → ∀ u z, p u z → SameAt (f s) (f t) u z

theorem Locally.id (p : TowerIdx → ZoneIdx → Prop) : Locally p fun s => s where
  handing := .refl
  outside s u z _ := .refl s u z
  inside _ _ _ same := same

theorem SameContext.tower {s t : State} (h : SameContext s t) (u : TowerIdx) : t.tower u = s.tower u := tower_congr h.jobs u

theorem SameContext.pass {s t : State} (h : SameContext s t) (u : TowerIdx) : t.pass u = s.pass u :=
  congrArg (look · u) h.passes

theorem SameContext.withinDeadband {s t : State} (h : SameContext s t) {u : TowerIdx} {z : ZoneIdx}
    (zone : t.zone u z = s.zone u z) (k : Nat) : t.withinDeadband u z k = s.withinDeadband u z k := by
  simp only [State.withinDeadband, zone, h.tower]

theorem SameContext.mayMove {s t : State} (h : SameContext s t) (u : TowerIdx) : t.mayMove u = s.mayMove u := by
  simp only [State.mayMove, h.tower, h.cycle]

/-- The single zone `(u, z)`. -/
def atZone (u : TowerIdx) (z : ZoneIdx) (v : TowerIdx) (x : ZoneIdx) : Prop := u = v ∧ z = x

theorem handTarget_targetOf (u : TowerIdx) (z : ZoneIdx) (k : Nat) (s : State) (v : TowerIdx) (x : ZoneIdx) :
    (handTarget u z k s).targetOf v x = s.targetOf v x := targetOf_congr (handTarget_frame u z k s).engine v x

theorem handTarget_locally (u : TowerIdx) (z : ZoneIdx) (k : Nat) : Locally (atZone u z) (handTarget u z k) where
  handing := handTarget_handing u z k
  outside s v x other := ⟨(handTarget_other other k s).1, handTarget_targetOf .., (handTarget_other other k s).2⟩
  inside s t context same v x here := by
    obtain ⟨rfl, rfl⟩ := here
    obtain ⟨zone, target, moves⟩ := same u z ⟨rfl, rfl⟩
    refine ⟨?_, by rw [handTarget_targetOf, handTarget_targetOf, target], ?_⟩
    · rw [handTarget_zone_eq, handTarget_zone_eq, zone, moves, context.withinDeadband zone, context.mayMove]
    · rw [handTarget_moves_eq, handTarget_moves_eq, zone, moves, context.withinDeadband zone, context.mayMove]

theorem putTarget_locally (u : TowerIdx) (z : ZoneIdx) (g : Option Target) :
    Locally (atZone u z) fun s => s.putTarget u z g where
  handing := putTarget_handing u z g
  outside s v x other := ⟨rfl, (putTarget_targetOf ..).trans (if_neg other), rfl⟩
  inside s t _ same v x here := by
    obtain ⟨zone, -, moves⟩ := same v x here
    change u = v ∧ z = x at here
    exact ⟨zone, by rw [putTarget_targetOf, putTarget_targetOf, if_pos here, if_pos here], moves⟩

/-- One local operation after another at the same zones. -/
theorem Locally.comp {p : TowerIdx → ZoneIdx → Prop} {f g : State → State} (hf : Locally p f) (hg : Locally p g) :
    Locally p fun s => g (f s) where
  handing s := (hf.handing s).trans (hg.handing (f s))
  outside s u z other := (hf.outside s u z other).trans (hg.outside (f s) u z other)
  inside s t context same := hg.inside (f s) (f t)
    ⟨(hf.handing t).context.jobs.trans (context.jobs.trans (hf.handing s).context.jobs.symm),
      (hf.handing t).context.cycle.trans (context.cycle.trans (hf.handing s).context.cycle.symm),
      (hf.handing t).context.passes.trans (context.passes.trans (hf.handing s).context.passes.symm),
      (hf.handing t).context.trim.trans (context.trim.trans (hf.handing s).context.trim.symm)⟩
    (hf.inside s t context same)

theorem rewriteTarget_locally (u : TowerIdx) (z : ZoneIdx) (g : Target) (k : Nat) :
    Locally (atZone u z) (rewriteTarget u z g k) := (putTarget_locally u z _).comp (handTarget_locally u z k)

theorem withdrawTarget_locally (u : TowerIdx) (z : ZoneIdx) : Locally (atZone u z) (withdrawTarget u z) where
  handing := withdrawTarget_handing u z
  outside s v x other := ⟨(withdrawTarget_zone ..).trans (if_neg other), targetOf_congr (withdrawTarget_frame u z s).engine v x,
    moves_congr (setMotionState_queue ..) v x⟩
  inside s t _ same v x here := by
    obtain ⟨zone, target, moves⟩ := same v x here
    have own := (same u z ⟨rfl, rfl⟩).zone
    change u = v ∧ z = x at here
    refine ⟨?_, ?_, ?_⟩
    · rw [withdrawTarget_zone, withdrawTarget_zone, if_pos here, if_pos here, own]
    · rw [targetOf_congr (withdrawTarget_frame u z t).engine, targetOf_congr (withdrawTarget_frame u z s).engine, target]
    · exact (moves_congr (setMotionState_queue ..) v x).trans (moves.trans (moves_congr (setMotionState_queue ..) v x).symm)

theorem zoneUpdate_locally (u : TowerIdx) (z : ZoneIdx) : Locally (atZone u z) (zoneUpdate u z) where
  handing := zoneUpdate_handing u z
  outside s v x other := by
    unfold zoneUpdate
    split
    · exact .refl ..
    · split
      · exact (rewriteTarget_locally ..).outside s v x other
      · exact .refl ..
  inside s t context same := by
    have target := (same u z ⟨rfl, rfl⟩).target
    simp only [zoneUpdate, target, context.pass, context.tower, trimOf_congr context.trim]
    split
    · exact same
    · split
      · exact (rewriteTarget_locally ..).inside s t context same
      · exact same

theorem clampTarget_locally (u : TowerIdx) (keyMax : Nat) (z : ZoneIdx) :
    Locally (atZone u z) (clampTarget u keyMax z) where
  handing := clampTarget_handing u keyMax z
  outside s v x other := by
    unfold clampTarget
    split
    · exact .refl ..
    · split
      · exact (rewriteTarget_locally ..).outside s v x other
      · exact .refl ..
  inside s t context same := by
    have target := (same u z ⟨rfl, rfl⟩).target
    simp only [clampTarget, target]
    split
    · exact same
    · split
      · exact (rewriteTarget_locally ..).inside s t context same
      · exact same

/-- A fold of local operations at pairwise disjoint zones leaves each zone as the one operation that concerns it would have
left it by itself, and every other zone as it was. -/
theorem Locally.foldl {ι : Type} {p : ι → TowerIdx → ZoneIdx → Prop} {f : ι → State → State} (loc : ∀ i, Locally (p i) (f i))
    {l : List ι} (disjoint : l.Pairwise fun i j => ∀ u z, p i u z → ¬ p j u z) (s : State) :
    (∀ u z, (∀ i ∈ l, ¬ p i u z) → SameAt s (l.foldl (fun s i => f i s) s) u z)
      ∧ ∀ i ∈ l, ∀ u z, p i u z → SameAt (f i s) (l.foldl (fun s i => f i s) s) u z := by
  induction l generalizing s with
  | nil => exact ⟨fun u z _ => .refl s u z, fun i member => absurd member List.not_mem_nil⟩
  | cons a l ih =>
    obtain ⟨apart, disjoint⟩ := List.pairwise_cons.1 disjoint
    obtain ⟨outside, inside⟩ := ih disjoint (f a s)
    refine ⟨fun u z none => ?_, fun i member u z here => ?_⟩
    · exact ((loc a).outside s u z (none a List.mem_cons_self)).trans
        (outside u z fun i member => none i (List.mem_cons_of_mem a member))
    · obtain rfl | member := List.mem_cons.1 member
      · exact outside u z fun j later there => apart j later u z here there
      · refine SameAt.trans ?_ (inside i member u z here)
        refine (loc i).inside s (f a s) ((loc a).handing s).context (fun v x there => ?_) u z here
        exact (loc a).outside s v x fun first => apart i member v x first there

/-- Operations each at a zone of its own, over a list of zones of one tower. -/
theorem Locally.foldl_zones {u : TowerIdx} {f : ZoneIdx → State → State} (loc : ∀ z, Locally (atZone u z) (f z))
    {zs : List ZoneIdx} (once : zs.Nodup) (s : State) :
    (∀ v z, (v ≠ u ∨ z ∉ zs) → SameAt s (zs.foldl (fun s z => f z s) s) v z)
      ∧ ∀ z ∈ zs, SameAt (f z s) (zs.foldl (fun s z => f z s) s) u z := by
  have apart : zs.Pairwise fun z y => ∀ v x, atZone u z v x → ¬ atZone u y v x :=
    once.imp fun other v x here there => other (here.2.trans there.2.symm)
  obtain ⟨outside, inside⟩ := Locally.foldl loc apart s
  refine ⟨fun v z none => outside v z fun y member here => ?_, fun z member => inside z member u z ⟨rfl, rfl⟩⟩
  obtain ⟨rfl, rfl⟩ := here
  obtain tower | zone := none
  · exact tower rfl
  · exact zone member

/-- A fold over zones of one tower is local to that tower. -/
theorem Locally.foldl_tower {u : TowerIdx} {f : ZoneIdx → State → State} (loc : ∀ z, Locally (atZone u z) (f z))
    (zs : List ZoneIdx) : Locally (fun v _ => u = v) fun s => zs.foldl (fun s z => f z s) s := by
  induction zs with
  | nil => exact .id _
  | cons z zs ih =>
    refine Locally.comp (f := f z) ⟨(loc z).handing, fun s v x other => (loc z).outside s v x fun here => other here.1,
      fun s t context same v x here => ?_⟩ ih
    by_cases there : atZone u z v x
    · exact (loc z).inside s t context (fun w y at' => same w y at'.1) v x there
    · exact ((loc z).outside s v x there).symm.trans ((same v x here).trans ((loc z).outside t v x there))

end Sys2Proof.Machine
end

section
/-! SUPPORT. Dispatch Scans in full (R79, R80, R81): the tower served first, its farthest zone, and what a whole scan adds to the
Drive Command Queue and leaves of the rest. -/

set_option Elab.async false

namespace Sys2Proof.Machine

/-! ### The first eligible tower and its farthest zone -/

/-- The first match of a list is not after any other match. -/
theorem find?_first {α : Type} {l : List α} {r : α → α → Prop} (ordered : l.Pairwise r) {p : α → Bool} {a : α}
    (found : l.find? p = some a) : ∀ b ∈ l, p b = true → b = a ∨ r a b := by
  obtain ⟨-, before, after, rfl, none⟩ := List.find?_eq_some_iff_append.1 found
  intro b member holds
  obtain member | member := List.mem_append.1 member
  · have not := none b member
    simp [holds] at not
  · obtain rfl | member := List.mem_cons.1 member
    · exact .inl rfl
    · exact .inr ((List.pairwise_cons.1 (List.pairwise_append.1 ordered).2.1).1 b member)

theorem scanOrder_ordered (pointer : TowerIdx) : (scanOrder pointer).Pairwise fun u v => u - pointer ≤ v - pointer := by
  refine List.pairwise_map.2 ((List.pairwise_lt_finRange 12).imp fun {i k} h => ?_)
  rw [add_sub_cancel_left, add_sub_cancel_left]
  exact h.le

/-- The tower served is the first eligible one in the order from the pointer on. -/
theorem first_eligible {s : State} {u : TowerIdx} (found : (scanOrder s.motion.pointer).find? s.eligible = some u) :
    s.eligible u = true ∧ ∀ v, s.eligible v = true → u - s.motion.pointer ≤ v - s.motion.pointer := by
  refine ⟨List.find?_some found, fun v eligible => ?_⟩
  obtain rfl | after := find?_first (scanOrder_ordered _) found v (mem_scanOrder _ v) eligible
  · exact le_rfl
  · exact after

/-- Of a list of waiting zones in ascending order the farthest is the first of those with the greatest distance. -/
theorem farthest_spec {s : State} {u : TowerIdx} {l : List (ZoneIdx × Nat)} {c : ZoneIdx × Nat}
    (ascending : l.Pairwise fun a b => a.1 < b.1) (h : farthest s u l = some c) : ∀ d ∈ l,
      s.toGo u d.1 d.2 < s.toGo u c.1 c.2 ∨ (s.toGo u d.1 d.2 = s.toGo u c.1 c.2 ∧ c.1 ≤ d.1) := by
  induction l generalizing c with
  | nil => simp [farthest] at h
  | cons a rest ih =>
    obtain ⟨first, ascending⟩ := List.pairwise_cons.1 ascending
    rw [farthest] at h
    split at h
    · next none =>
      obtain rfl := Option.some.inj h
      rw [farthest_eq_none_iff.1 none]
      intro d member
      obtain rfl := List.mem_singleton.1 member
      exact .inr ⟨rfl, le_rfl⟩
    · next e he =>
      have best := ih ascending he
      have later := (first e (farthest_mem he)).le
      split at h
      · next less =>
        obtain rfl := Option.some.inj h
        intro d member
        obtain rfl | member := List.mem_cons.1 member
        · exact .inl less
        · exact best d member
      · next less =>
        obtain rfl := Option.some.inj h
        intro d member
        obtain rfl | member := List.mem_cons.1 member
        · exact .inr ⟨rfl, le_rfl⟩
        · have below := (first d member).le
          obtain far | ⟨same, -⟩ := best d member
          · exact .inl (far.trans_le (Nat.le_of_not_lt less))
          · obtain far | same' := (Nat.le_of_not_lt less).lt_or_eq
            · exact .inl (same.trans_lt far)
            · exact .inr ⟨same.trans same', below⟩

theorem waiting_ascending (s : State) (u : TowerIdx) : (s.waiting u).Pairwise fun a b => a.1 < b.1 := by
  refine List.pairwise_filterMap.2 ((List.pairwise_lt_finRange 48).imp fun {x y} less a ha b hb => ?_)
  have own : ∀ {x : ZoneIdx} {c : ZoneIdx × Nat},
      (if (s.zone u x).state = .pending then (s.targetOf u x).map fun g => (x, g.k) else none) = some c → c.1 = x := by
    intro x c h
    split at h
    · obtain ⟨g, -, rfl⟩ := Option.map_eq_some_iff.1 h
      rfl
    · cases h
  rw [own ha, own hb]
  exact less

theorem candidate_spec {s : State} {u : TowerIdx} {z : ZoneIdx} {k : Nat} (h : s.candidate u = some (z, k)) :
    ∀ x g, (s.zone u x).state = .pending → s.targetOf u x = some g →
      s.toGo u x g.k < s.toGo u z k ∨ (s.toGo u x g.k = s.toGo u z k ∧ z ≤ x) := fun x g pending target =>
  farthest_spec (waiting_ascending s u) h (x, g.k) (mem_waiting.2 ⟨pending, g, target, rfl⟩)

theorem eligible_iff {s : State} {u : TowerIdx} : s.eligible u = true ↔
    (∃ z g, (s.zone u z).state = .pending ∧ s.targetOf u z = some g) ∧ s.mayMove u = true
      ∧ look s.motion.inFlight u < s.effective u := by
  have some : (s.waiting u).isEmpty = false ↔ ∃ z g, (s.zone u z).state = .pending ∧ s.targetOf u z = some g := by
    rw [List.isEmpty_eq_false_iff_exists_mem]
    constructor
    · rintro ⟨c, hc⟩
      obtain ⟨pending, g, target, -⟩ := mem_waiting.1 hc
      exact ⟨c.1, g, pending, target⟩
    · rintro ⟨z, g, pending, target⟩
      exact ⟨(z, g.k), mem_waiting.2 ⟨pending, g, target, rfl⟩⟩
  simp only [State.eligible, Bool.and_eq_true, Bool.not_eq_true', some, decide_eq_true_eq, and_assoc]

/-! ### Induction over a scan -/

/-- What every step of a scan keeps, the scan keeps. -/
theorem scanLoop_keeps {P : State → Prop} (h : ∀ s t, P s → scanStep s = some t → P t) (n : Nat) {s : State} (hs : P s) :
    P (scanLoop n s) := by
  induction n generalizing s with
  | zero => exact hs
  | succ n ih =>
    rw [scanLoop]
    split
    · exact hs
    · next t step => exact ih (h s t hs step)

theorem dispatchScan_keeps {P : State → Prop} (h : ∀ s t, P s → scanStep s = some t → P t) {s : State} (hs : P s) :
    P (dispatchScan s) := scanLoop_keeps h _ hs

theorem dispatchScan_done {s : State} (h : s.motion.cap ≤ s.motion.pressInFlight ∨ scanStep s = none) : dispatchScan s = s := by
  unfold dispatchScan
  cases places : s.motion.cap - s.motion.pressInFlight with
  | zero => rfl
  | succ n =>
    have none := h.resolve_left (by omega)
    simp [scanLoop, none]

theorem dispatchScan_step {s t : State} (room : s.motion.pressInFlight < s.motion.cap) (step : scanStep s = some t) :
    dispatchScan s = dispatchScan t := by
  have cap := (scanStep_sameBounds step).cap
  have count := scanStep_pressInFlight step
  obtain ⟨n, places⟩ : ∃ n, s.motion.cap - s.motion.pressInFlight = n + 1 := ⟨s.motion.cap - s.motion.pressInFlight - 1, by omega⟩
  have places' : t.motion.cap - t.motion.pressInFlight = n := by omega
  rw [dispatchScan, dispatchScan, places, places', scanLoop, step]

theorem scanLoop_pressInFlight_le (n : Nat) (s : State) : (scanLoop n s).motion.pressInFlight ≤ s.motion.pressInFlight + n := by
  induction n generalizing s with
  | zero => exact le_rfl
  | succ n ih =>
    rw [scanLoop]
    split
    · omega
    · next t step =>
      have count := scanStep_pressInFlight step
      have rest := ih t
      omega

theorem effective_of_sameBounds {s t : State} (h : SameBounds s t) (u : TowerIdx) : t.effective u = s.effective u := by
  rw [State.effective, State.effective, h.restricted, h.concurrency]

theorem dispatchScan_inFlight_le (s : State) (u : TowerIdx) :
    look (dispatchScan s).motion.inFlight u ≤ max (look s.motion.inFlight u) (s.effective u) := by
  have keeps : ∀ a b, (look a.motion.inFlight u ≤ max (look s.motion.inFlight u) (s.effective u)
      ∧ a.effective u = s.effective u) → scanStep a = some b →
      (look b.motion.inFlight u ≤ max (look s.motion.inFlight u) (s.effective u) ∧ b.effective u = s.effective u) := by
    rintro a b ⟨bound, effective⟩ step
    refine ⟨?_, (effective_of_sameBounds (scanStep_sameBounds step) u).trans effective⟩
    obtain ⟨v, z, g, found, -, -, -, rfl⟩ := scanStep_starts step
    have room := (eligible_iff.1 (first_eligible found).1).2.2
    rw [setMotion_motion, startMove_motion, look_put]
    split
    · next here =>
      rw [here, effective] at room
      rw [here]
      omega
    · exact bound
  exact (dispatchScan_keeps keeps ⟨le_max_left .., rfl⟩).1

/-! ### What a whole scan leaves -/

/-- The MOVE of a zone that a scan from `s` to `t` has started (R81). -/
def Started (s t : State) (e : DriveEntry) : Prop :=
  ∃ u z g, (s.zone u z).state = .pending ∧ (t.zone u z).state = .moving ∧ s.targetOf u z = some g
    ∧ e = .move u z g.k ((s.zone u z).tag + 1)

/-- `t` comes from `s` by steps of a Dispatch Scan. -/
structure Scanned (s t : State) : Prop where
  frame : OnlyChanges [.motion, .trim] s t
  motion : t.motion = { s.motion with
    zones := t.motion.zones, queue := t.motion.queue, inFlight := t.motion.inFlight
    pressInFlight := t.motion.pressInFlight, pointer := t.motion.pointer }
  trim : t.trim = { s.trim with zones := t.trim.zones }
  trims : ∀ u z, (t.trimOf u z).trim = (s.trimOf u z).trim ∧ (t.trimOf u z).lastAverage = (s.trimOf u z).lastAverage
  averaging : ∀ u z, (s.trimOf u z).resetAveraging = s.trimOf u z → t.trimOf u z = s.trimOf u z
  zones : ∀ u z, StartedOrSame s t u z
  moves : ∃ moves, t.motion.queue = s.motion.queue ++ moves ∧ moves.Nodup
    ∧ t.motion.pressInFlight = s.motion.pressInFlight + moves.length ∧ ∀ e, e ∈ moves ↔ Started s t e

theorem StartedOrSame.unsettled {s t : State} {u : TowerIdx} {z : ZoneIdx} (h : StartedOrSame s t u z) :
    (t.zone u z).state.unsettled = (s.zone u z).state.unsettled := by
  obtain same | ⟨pending, g, -, started⟩ := h
  · rw [same]
  · rw [started, pending]
    rfl

theorem StartedOrSame.fixed {s t : State} {u : TowerIdx} {z : ZoneIdx} (h : StartedOrSame s t u z) :
    (t.zone u z).actual = (s.zone u z).actual ∧ (t.zone u z).settleUntil = (s.zone u z).settleUntil := by
  obtain same | ⟨-, g, -, started⟩ := h
  · rw [same]
    exact ⟨rfl, rfl⟩
  · rw [started]
    exact ⟨rfl, rfl⟩

theorem not_started_self {s : State} {e : DriveEntry} : ¬ Started s s e := by
  rintro ⟨u, z, g, pending, moving, -⟩
  simp [pending] at moving

theorem Scanned.refl (s : State) : Scanned s s where
  frame := .refl _ s
  motion := rfl
  trim := rfl
  trims _ _ := ⟨rfl, rfl⟩
  averaging _ _ _ := rfl
  zones _ _ := .inl rfl
  moves := ⟨[], (List.append_nil _).symm, List.nodup_nil, rfl, fun e => by simp [not_started_self]⟩

theorem Scanned.targetOf {s t : State} (h : Scanned s t) (u : TowerIdx) (z : ZoneIdx) : t.targetOf u z = s.targetOf u z :=
  targetOf_congr h.frame.engine u z

/-- A zone is started in the first part of a scan or in the second. -/
theorem started_trans_iff {s t r : State} (h : Scanned s t) (h' : Scanned t r) {e : DriveEntry} :
    Started s r e ↔ Started s t e ∨ Started t r e := by
  constructor
  · rintro ⟨u, z, g, pending, moving, target, rfl⟩
    obtain same | ⟨-, g', -, started⟩ := h.zones u z
    · exact .inr ⟨u, z, g, by rwa [same], moving, (h.targetOf u z).trans target, by rw [same]⟩
    · exact .inl ⟨u, z, g, pending, by rw [started], target, rfl⟩
  · rintro (⟨u, z, g, pending, moving, target, rfl⟩ | ⟨u, z, g, pending, moving, target, rfl⟩)
    · refine ⟨u, z, g, pending, ?_, target, rfl⟩
      obtain same | ⟨pending', -⟩ := h'.zones u z
      · rwa [same]
      · simp [moving] at pending'
    · obtain same | ⟨-, g', -, started⟩ := h.zones u z
      · exact ⟨u, z, g, same ▸ pending, moving, (h.targetOf u z).symm.trans target, by rw [same]⟩
      · simp [started] at pending

theorem Scanned.trans {s t r : State} (h : Scanned s t) (h' : Scanned t r) : Scanned s r where
  frame := h.frame.trans h'.frame
  motion := by rw [h'.motion, h.motion]
  trim := by rw [h'.trim, h.trim]
  trims u z := ⟨(h'.trims u z).1.trans (h.trims u z).1, (h'.trims u z).2.trans (h.trims u z).2⟩
  averaging u z reset := by
    have first := h.averaging u z reset
    rw [h'.averaging u z (by rw [first, reset]), first]
  zones u z := (h.zones u z).trans (h'.zones u z) (h.targetOf u z)
  moves := by
    obtain ⟨first, queue, once, count, member⟩ := h.moves
    obtain ⟨second, queue', once', count', member'⟩ := h'.moves
    refine ⟨first ++ second, by rw [queue', queue, List.append_assoc], ?_, ?_, fun e => ?_⟩
    · refine List.nodup_append'.2 ⟨once, once', fun e there there' => ?_⟩
      obtain ⟨u, z, g, -, moving, -, rfl⟩ := (member e).1 there
      obtain ⟨v, x, g', pending, -, -, same⟩ := (member' _).1 there'
      obtain ⟨rfl, rfl, -⟩ := DriveEntry.move.inj same
      simp [moving] at pending
    · rw [count', count, List.length_append, Nat.add_assoc]
    · rw [List.mem_append, member, member', started_trans_iff h h']

/-- What one step of a scan leaves of the motion and trim fields (R81). -/
theorem scanStep_scanned {s t : State} (step : scanStep s = some t) : Scanned s t := by
  have zones := scanStep_startedOrSame step
  have frame := scanStep_frame step
  obtain ⟨u, z, g, -, -, pending, target, rfl⟩ := scanStep_starts step
  have zone : ∀ v x, ((startMove u z g.k s).setMotion { (startMove u z g.k s).motion with pointer := u + 1 }).zone v x
      = if u = v ∧ z = x then { s.zone u z with state := .moving, commanded := some g.k, tag := (s.zone u z).tag + 1 }
        else s.zone v x := startMove_zone u z g.k s
  have trimOf : ∀ v x, ((startMove u z g.k s).setMotion { (startMove u z g.k s).motion with pointer := u + 1 }).trimOf v x
      = if u = v ∧ z = x then (s.trimOf u z).resetAveraging else s.trimOf v x := startMove_trimOf u z g.k s
  refine ⟨frame, rfl, rfl, fun v x => ?_, fun v x reset => ?_, zones,
    ⟨[.move u z g.k ((s.zone u z).tag + 1)], rfl, List.nodup_singleton _, rfl, fun e => ?_⟩⟩
  · rw [trimOf]
    split
    · next here => rw [← here.1, ← here.2]; exact ⟨rfl, rfl⟩
    · exact ⟨rfl, rfl⟩
  · rw [trimOf]
    split
    · next here => rw [here.1, here.2, reset]
    · rfl
  · rw [List.mem_singleton]
    constructor
    · rintro rfl
      exact ⟨u, z, g, pending, by rw [zone, if_pos ⟨rfl, rfl⟩], target, rfl⟩
    · rintro ⟨v, x, g', pending', moving, target', rfl⟩
      rw [zone] at moving
      split at moving
      · next here =>
        obtain ⟨rfl, rfl⟩ := here
        rw [Option.some.inj (target'.symm.trans target)]
      · simp [pending'] at moving

theorem scanLoop_scanned (n : Nat) (s : State) : Scanned s (scanLoop n s) :=
  scanLoop_keeps (P := Scanned s) (fun _ _ h step => h.trans (scanStep_scanned step)) n (.refl s)

theorem dispatchScan_scanned (s : State) : Scanned s (dispatchScan s) := scanLoop_scanned _ s

theorem newlyPending_iff {b s : State} : newlyPending b s = true ↔
    ∃ u z, (s.zone u z).state = .pending ∧ (b.zone u z).state ≠ .pending := by
  simp [newlyPending]

theorem scanIfPending_pending {b s : State} {u : TowerIdx} {z : ZoneIdx} (pending : (s.zone u z).state = .pending)
    (before : (b.zone u z).state ≠ .pending) : scanIfPending b s = dispatchScan s :=
  if_pos (newlyPending_iff.2 ⟨u, z, pending, before⟩)

theorem scanIfPending_none {b s : State} (h : ∀ u z, (s.zone u z).state = .pending → (b.zone u z).state = .pending) :
    scanIfPending b s = s :=
  if_neg fun pending => by
    obtain ⟨u, z, after, before⟩ := newlyPending_iff.1 pending
    exact before (h u z after)

theorem scanIfPending_scanned (b s : State) : Scanned s (scanIfPending b s) := by
  unfold scanIfPending
  split
  · exact dispatchScan_scanned s
  · exact .refl s

/-- The scan of an event is made where a zone has become PENDING in it, and leaves nothing to start. -/
theorem scanIfPending_exhausted {b s : State} {u : TowerIdx} {z : ZoneIdx} (pending : (s.zone u z).state = .pending)
    (before : (b.zone u z).state ≠ .pending) : ScanExhausted (scanIfPending b s) := by
  rw [scanIfPending_pending pending before]
  exact dispatchScan_exhausted s

section
variable {s t : State} (h : Scanned s t)
include h

theorem Scanned.watch : t.motion.watch = s.motion.watch := by rw [h.motion]

theorem Scanned.notice : t.notice = s.notice := h.frame.notice

theorem Scanned.sweeps : t.sweeps = s.sweeps := by
  obtain ⟨moves, queue, -, -, member⟩ := h.moves
  rw [State.sweeps, State.sweeps, queue, List.filter_append]
  have none : moves.filter DriveEntry.isSweep = [] := by
    refine List.filter_eq_nil_iff.2 fun e there => ?_
    obtain ⟨u, z, g, -, -, -, rfl⟩ := (member e).1 there
    simp [DriveEntry.isSweep]
  rw [none, List.append_nil]

end

end Sys2Proof.Machine
end

section
/-! PROOF. Key motion (chapter 5): hand-ons by motion state, Dispatch Scans. -/

set_option Elab.async false

namespace Sys2Proof.Machine

/-- The deadband test as the statements spell it out. -/
theorem withinDeadband_iff {s : State} {u : TowerIdx} {z : ZoneIdx} {k : Nat} : s.withinDeadband u z k = true
    ↔ ∃ a, (s.zone u z).actual = some a ∧ |(k : Int) - a| ≤ (s.tower u).deadband := by
  have size : ∀ a d : Nat, distance k a ≤ d ↔ |(k : Int) - a| ≤ d := fun a d => by
    rw [abs_le, distance]
    omega
  unfold State.withinDeadband
  split
  · next a known => simp [known, size]
  · next unknown => simp [unknown]

theorem MotionState.resting_iff {m : MotionState} : m.resting = true ↔ m = .noTarget ∨ m = .atTarget ∨ m = .pending := by
  cases m <;> simp [MotionState.resting]

theorem MotionState.resting_of_inFlight {m : MotionState} (h : m.inFlight = true) : m.resting = false := by
  cases m <;> simp_all [MotionState.resting, MotionState.inFlight]

/-- The in-place change of R84, as the statement writes it. -/
theorem retarget_eq (u : TowerIdx) (z : ZoneIdx) (k : Nat) : DriveEntry.retarget u z k = fun e => match e with
    | .move v x g tag => if v = u ∧ x = z then .move v x k tag else .move v x g tag
    | .sweep v x => .sweep v x := by
  funext e
  cases e with
  | move v x g tag => simp [DriveEntry.retarget]
  | sweep v x => rfl

/-- Settles O37: the four ways in which a hand-on acts. -/
theorem keyTargetHandedOnByState : Obligations.KeyTargetHandedOnByState := by
  unfold Obligations.KeyTargetHandedOnByState
  intro s u z k t w near resting moving inPhase queued
  have handing := handTarget_handing u z k s
  have other : ∀ {v x}, (v, x) ≠ (u, z) → ¬ (u = v ∧ z = x) := fun h here => h (by rw [here.1, here.2])
  have rest : resting → t = setMotionState u z (if s.withinDeadband u z k then .atTarget else .pending) s :=
    fun h => handTarget_resting (MotionState.resting_iff.2 h)
  have retargets : moving → w.commanded ≠ some k → inPhase → s.retargets u z k :=
    fun h commanded phase => ⟨MotionState.inFlight_iff.2 h, commanded, phase⟩
  refine ⟨handTarget_frame u z k s, fun v x h => (handTarget_other (other h) k s).1, handTarget_motion u z k s,
    handTarget_settleTested, handTarget_kept_state, handing.records, handing.controls, fun h close => ?_, fun h far => ?_,
    fun h => ?_, fun h kept => ?_, fun h commanded phase place => ?_, fun h commanded phase sent => ?_⟩
  · rw [rest h, withinDeadband_iff.2 close, setMotionState_zone, if_pos ⟨rfl, rfl⟩]
    exact ⟨rfl, setMotionState_queue ..⟩
  · rw [rest h, Bool.eq_false_iff.2 (mt withinDeadband_iff.1 far), setMotionState_zone, if_pos ⟨rfl, rfl⟩]
    exact ⟨rfl, setMotionState_queue ..⟩
  · have state : (s.zone u z).state = .faulted := h
    refine handTarget_kept (by rw [state]; rfl) fun ⟨flight, _⟩ => ?_
    simp [state, MotionState.inFlight] at flight
  · refine handTarget_kept (MotionState.resting_of_inFlight (MotionState.inFlight_iff.2 h)) fun ⟨_, commanded, phase⟩ => ?_
    exact kept.elim commanded fun not => not phase
  · have made := (handTarget_retargets (retargets h commanded phase)).trans (keyRetarget_queued (moveQueued_iff.2 place))
    change (handTarget u z k s).zone u z = _ ∧ (handTarget u z k s).notice = _ ∧ (handTarget u z k s).motion.queue = _
    rw [made, setMotion_zone, zlook_zput, if_pos ⟨rfl, rfl⟩]
    exact ⟨rfl, rfl, congrArg (List.map · s.motion.queue) (retarget_eq u z k)⟩
  · have made := (handTarget_retargets (retargets h commanded phase)).trans
      (keyRetarget_sent (Bool.eq_false_iff.2 (mt moveQueued_iff.1 sent)))
    change (handTarget u z k s).zone u z = _ ∧ (handTarget u z k s).notice = _ ∧ (handTarget u z k s).motion.queue = _
    rw [made, setMotion_zone, zlook_zput, if_pos ⟨rfl, rfl⟩]
    exact ⟨rfl, rfl, rfl⟩

/-- Settles O38: a step by the first eligible tower and its farthest zone, the scan by the induction over its steps. -/
theorem dispatchScanServesTowersInTurn : Obligations.DispatchScanServesTowersInTurn := by
  unfold Obligations.DispatchScanServesTowersInTurn
  refine ⟨fun s t step => ?_, fun s u => eligible_iff, fun s => scanStep_eq_none_iff, fun s => dispatchScan_done,
    fun s t => dispatchScan_step, fun b s => ⟨?_, scanIfPending_none⟩, fun s => ?_⟩
  · have frame := scanStep_frame step
    obtain ⟨u, z, g, found, candidate, pending, target, rfl⟩ := scanStep_starts step
    obtain ⟨eligible, first⟩ := first_eligible found
    have other : ∀ {v x}, (v, x) ≠ (u, z) → ¬ (u = v ∧ z = x) := fun h here => h (by rw [here.1, here.2])
    refine ⟨u, z, g, eligible, first, pending, target, fun x h => candidate_spec candidate x h, ?_, fun v x h => ?_, rfl, ?_,
      fun v x h => ?_, frame⟩
    · exact (startMove_zone u z g.k s u z).trans (if_pos ⟨rfl, rfl⟩)
    · exact (startMove_zone u z g.k s v x).trans (if_neg (other h))
    · exact (startMove_trimOf u z g.k s u z).trans (if_pos ⟨rfl, rfl⟩)
    · exact (startMove_trimOf u z g.k s v x).trans (if_neg (other h))
  · rintro ⟨u, z, pending, before⟩
    exact scanIfPending_pending pending before
  · intro t
    have scanned := dispatchScan_scanned s
    have bound := scanLoop_pressInFlight_le (s.motion.cap - s.motion.pressInFlight) s
    refine ⟨dispatchScan_exhausted s, scanned.frame, ?_, dispatchScan_inFlight_le s, scanned.zones, scanned.moves⟩
    change (dispatchScan s).motion.pressInFlight ≤ _
    rw [dispatchScan]
    omega

end Sys2Proof.Machine
end

section
/-! SUPPORT. What agrees with the zones' motion states (R73, R76, R78), zone by zone: kept by every operation of the Motion
Scheduler. -/

set_option Elab.async false

namespace Sys2Proof.Machine

/-! ### The agreement, zone by zone -/

/-- The motion fields of one zone agree with its motion state and its Key Target (R73). -/
def ZoneConsistent (w : MotionZone) (g : Option Target) : Prop :=
  (w.commanded.isSome ↔ w.state = .moving ∨ w.state = .retry)
    ∧ (w.state = .atTarget ∨ w.state = .pending → g.isSome) ∧ (w.state = .noTarget → g = none)

/-- The SWEEPs of a tower that stand in the Drive Command Queue. -/
def State.sweepsOf (s : State) (u : TowerIdx) : List DriveEntry := s.motion.queue.filter (DriveEntry.isSweepOf u)

/-- At most one SWEEP of the tower is queued, its value at most 1000 (R61). -/
def QueuedSweep (u : TowerIdx) (q : List DriveEntry) : Prop :=
  q.length ≤ 1 ∧ ∀ v, DriveEntry.sweep u v ∈ q → v ≤ 1000

theorem mem_sweepsOf {s : State} {u : TowerIdx} {v : Nat} :
    DriveEntry.sweep u v ∈ s.sweepsOf u ↔ DriveEntry.sweep u v ∈ s.motion.queue := by
  simp [State.sweepsOf, DriveEntry.isSweepOf]

theorem sweepsOf_eq_filter (s : State) (u : TowerIdx) : s.sweepsOf u = s.sweeps.filter (DriveEntry.isSweepOf u) := by
  rw [State.sweepsOf, State.sweeps, List.filter_filter]
  refine List.filter_congr fun e _ => ?_
  cases e with
  | move v x g tag => rfl
  | sweep v n => simp [DriveEntry.isSweep]

theorem sweepsOf_congr {s t : State} (h : t.sweeps = s.sweeps) (u : TowerIdx) : t.sweepsOf u = s.sweepsOf u := by
  rw [sweepsOf_eq_filter, sweepsOf_eq_filter, h]

/-- The MOVEs of one zone agree with it in the terms of the invariant. -/
theorem queuedMove_iff {s : State} {u : TowerIdx} {z : ZoneIdx} : QueuedMove u z (s.zone u z) (s.moves u z) ↔
    (s.moves u z).length ≤ 1
      ∧ (∀ g tag, DriveEntry.move u z g tag ∈ s.motion.queue →
          ((s.zone u z).state = .moving ∨ (s.zone u z).state = .retry)
          ∧ (s.zone u z).tag = tag ∧ (s.zone u z).commanded = some g ∧ (s.zone u z).timer = none)
      ∧ ((s.zone u z).timer ≠ none → (s.zone u z).state = .moving ∨ (s.zone u z).state = .retry) := by
  simp only [← MotionState.inFlight_iff, QueuedMove]
  have member : ∀ g tag, DriveEntry.move u z g tag ∈ s.motion.queue ↔ DriveEntry.move u z g tag ∈ s.moves u z := fun g tag => by
    simp [mem_moves]
  constructor
  · rintro ⟨none | ⟨g, one, flight, commanded, timer⟩, running⟩
    · exact ⟨by simp [none], fun g tag there => by simp [member, none] at there, running⟩
    · refine ⟨by simp [one], fun g' tag there => ?_, running⟩
      rw [member, one, List.mem_singleton] at there
      obtain ⟨-, -, rfl, rfl⟩ := DriveEntry.move.inj there
      exact ⟨flight, rfl, commanded, timer⟩
  · rintro ⟨one, agrees, running⟩
    refine ⟨?_, running⟩
    cases moves : s.moves u z with
    | nil => exact .inl rfl
    | cons e rest =>
      obtain ⟨there, g, tag, rfl⟩ := mem_moves.1 (moves ▸ List.mem_cons_self : e ∈ s.moves u z)
      obtain ⟨flight, rfl, commanded, timer⟩ := agrees g tag there
      have none : rest = [] := List.length_eq_zero_iff.1 (by rw [moves, List.length_cons] at one; omega)
      exact .inr ⟨g, by rw [none], flight, commanded, timer⟩

theorem driveQueueConsistent_iff {s : State} : DriveQueueConsistent s ↔
    (∀ u z, QueuedMove u z (s.zone u z) (s.moves u z)) ∧ ∀ u, QueuedSweep u (s.sweepsOf u) := by
  simp only [queuedMove_iff, QueuedSweep, mem_sweepsOf]
  constructor
  · rintro ⟨once, agrees, sweeps, values, timers⟩
    exact ⟨fun u z => ⟨once u z, agrees u z, timers u z⟩, fun u => ⟨sweeps u, values u⟩⟩
  · rintro ⟨moves, sweeps⟩
    exact ⟨fun u z => (moves u z).1, fun u z => (moves u z).2.1, fun u => (sweeps u).1, fun u => (sweeps u).2,
      fun u z => (moves u z).2.2⟩

/-! ### Counting the zones in MOVING or RETRY (R78) -/

/-- Sums over a list without repetition in which one entry has been replaced. -/
theorem sum_map_replace {α : Type} [DecidableEq α] {l : List α} (once : l.Nodup) {a : α} (member : a ∈ l) {f g : α → Nat}
    (same : ∀ b, b ≠ a → g b = f b) : (l.map g).sum + f a = (l.map f).sum + g a := by
  have rest : (l.erase a).map g = (l.erase a).map f :=
    List.map_congr_left fun b there => same b fun here => once.not_mem_erase (here ▸ there)
  have first := List.sum_map_erase f member
  have second := List.sum_map_erase g member
  rw [rest] at second
  omega

theorem moving_eq_sum (s : State) (u : TowerIdx) :
    s.moving u = (allZones.map fun z => if (s.zone u z).state.inFlight then 1 else 0).sum := by
  rw [State.moving, ← List.countP_eq_length_filter]
  induction allZones with
  | nil => rfl
  | cons z zs ih => rw [List.countP_cons, ih, List.map_cons, List.sum_cons, Nat.add_comm]

theorem moving_congr {s t : State} {u : TowerIdx} (h : ∀ z, (t.zone u z).state.inFlight = (s.zone u z).state.inFlight) :
    t.moving u = s.moving u := by
  rw [moving_eq_sum, moving_eq_sum]
  simp only [h]

/-- The count of a tower in which one zone has changed. -/
theorem moving_replace {s t : State} {u : TowerIdx} {z : ZoneIdx} (others : ∀ x, x ≠ z → t.zone u x = s.zone u x) :
    t.moving u + (if (s.zone u z).state.inFlight then 1 else 0) = s.moving u + if (t.zone u z).state.inFlight then 1 else 0 := by
  rw [moving_eq_sum, moving_eq_sum]
  exact sum_map_replace (f := fun x => if (s.zone u x).state.inFlight then 1 else 0)
    (g := fun x => if (t.zone u x).state.inFlight then 1 else 0) allZones_nodup (mem_allZones z)
    fun x other => by rw [others x other]

theorem CountsExact.congr {s t : State} (h : CountsExact s)
    (zones : ∀ u z, (t.zone u z).state.inFlight = (s.zone u z).state.inFlight) (inFlight : t.motion.inFlight = s.motion.inFlight)
    (press : t.motion.pressInFlight = s.motion.pressInFlight) : CountsExact t := by
  have moving : t.moving = s.moving := funext fun u => moving_congr (zones u)
  unfold CountsExact
  rwa [moving, inFlight, press]

section
variable {s t : State} {u : TowerIdx} {z : ZoneIdx} (others : ∀ v x, ¬ (u = v ∧ z = x) → t.zone v x = s.zone v x)
include others

theorem moving_sum_replace : (∀ v, v ≠ u → t.moving v = s.moving v)
    ∧ (allTowers.map t.moving).sum + s.moving u = (allTowers.map s.moving).sum + t.moving u := by
  have towers : ∀ v, v ≠ u → t.moving v = s.moving v := fun v other =>
    moving_congr fun x => by rw [others v x fun here => other here.1.symm]
  exact ⟨towers, sum_map_replace allTowers_nodup (mem_allTowers u) towers⟩

/-- A zone that takes an in-flight place. -/
theorem CountsExact.place (h : CountsExact s) (before : (s.zone u z).state.inFlight = false)
    (after : (t.zone u z).state.inFlight = true)
    (inFlight : t.motion.inFlight = put s.motion.inFlight u (look s.motion.inFlight u + 1))
    (press : t.motion.pressInFlight = s.motion.pressInFlight + 1) : CountsExact t := by
  obtain ⟨exact, total⟩ := h
  have own := moving_replace (z := z) fun x other => others u x fun here => other here.2.symm
  obtain ⟨towers, sum⟩ := moving_sum_replace others
  simp only [before, after, if_true] at own
  refine ⟨fun v => ?_, by simp at own; omega⟩
  rw [inFlight, look_put]
  split
  · next here => subst here; rw [exact]; simp at own; omega
  · next other => rw [exact, towers v (Ne.symm other)]

/-- A zone that gives up its in-flight place. -/
theorem CountsExact.release (h : CountsExact s) (before : (s.zone u z).state.inFlight = true)
    (after : (t.zone u z).state.inFlight = false)
    (inFlight : t.motion.inFlight = put s.motion.inFlight u (look s.motion.inFlight u - 1))
    (press : t.motion.pressInFlight = s.motion.pressInFlight - 1) : CountsExact t := by
  obtain ⟨exact, total⟩ := h
  have own := moving_replace (z := z) fun x other => others u x fun here => other here.2.symm
  obtain ⟨towers, sum⟩ := moving_sum_replace others
  simp only [before, after, if_true] at own
  refine ⟨fun v => ?_, by simp at own; omega⟩
  rw [inFlight, look_put]
  split
  · next here => subst here; rw [exact]; simp at own; omega
  · next other => rw [exact, towers v (Ne.symm other)]

end

/-! ### What every operation of the Motion Scheduler keeps -/

/-- `t` keeps of `s` what R73, R76 and R78 say: each zone's fields, each zone's MOVEs, each tower's SWEEPs, the counts. -/
structure MotionKept (s t : State) : Prop where
  consistent : ∀ u z, ZoneConsistent (s.zone u z) (s.targetOf u z) → ZoneConsistent (t.zone u z) (t.targetOf u z)
  counts : CountsExact s → CountsExact t
  moves : ∀ u z, QueuedMove u z (s.zone u z) (s.moves u z) → QueuedMove u z (t.zone u z) (t.moves u z)
  sweeps : ∀ u, QueuedSweep u (s.sweepsOf u) → QueuedSweep u (t.sweepsOf u)

namespace MotionKept

variable {s t r : State}

theorem trans (h : MotionKept s t) (h' : MotionKept t r) : MotionKept s r where
  consistent u z hs := h'.consistent u z (h.consistent u z hs)
  counts hs := h'.counts (h.counts hs)
  moves u z hs := h'.moves u z (h.moves u z hs)
  sweeps u hs := h'.sweeps u (h.sweeps u hs)

/-- The last of several steps first: `r` comes from `t` by the step `h'`, and `t` from `s`. -/
theorem after (h' : MotionKept t r) (h : MotionKept s t) : MotionKept s r := h.trans h'

/-- Nothing that the agreement speaks of has changed. -/
theorem of_same (zones : t.motion.zones = s.motion.zones) (targets : t.engine.targets = s.engine.targets)
    (queue : t.motion.queue = s.motion.queue) (inFlight : t.motion.inFlight = s.motion.inFlight)
    (press : t.motion.pressInFlight = s.motion.pressInFlight) : MotionKept s t := by
  have zone : ∀ u z, t.zone u z = s.zone u z := fun u z => congrArg (zlook · u z) zones
  have target : ∀ u z, t.targetOf u z = s.targetOf u z := fun u z => congrArg (zlook · u z) targets
  exact ⟨fun u z h => by rwa [zone, target], fun h => h.congr (fun u z => by rw [zone]) inFlight press,
    fun u z h => by rwa [zone, moves_congr queue], fun u h => by rwa [sweepsOf_congr (sweeps_congr queue)]⟩

theorem of_blocks (motion : t.motion = s.motion) (targets : t.engine.targets = s.engine.targets) : MotionKept s t :=
  .of_same (by rw [motion]) targets (by rw [motion]) (by rw [motion]) (by rw [motion])

theorem of_frame {bs : List Block} (frame : OnlyChanges bs s t) (motion : Block.motion ∉ bs := by decide)
    (engine : Block.engine ∉ bs := by decide) : MotionKept s t :=
  .of_blocks (frame.motion motion) (by rw [frame.engine engine])

theorem refl (s : State) : MotionKept s s := .of_blocks rfl rfl

theorem foldl {α : Type} {f : State → α → State} (h : ∀ s a, MotionKept s (f s a)) (l : List α) (s : State) :
    MotionKept s (l.foldl f s) := by
  induction l generalizing s with
  | nil => exact .refl s
  | cons a l ih => exact (h s a).trans (ih (f s a))

end MotionKept

/-- A hand-on keeps the counts and the queue; what it keeps of the zones is said apart. -/
theorem Handing.kept {s t : State} (h : Handing s t)
    (consistent : ∀ u z, ZoneConsistent (s.zone u z) (s.targetOf u z) → ZoneConsistent (t.zone u z) (t.targetOf u z)) :
    MotionKept s t where
  consistent := consistent
  counts hs := hs.congr h.inFlight (by rw [h.motion]) (by rw [h.motion])
  moves := h.moves
  sweeps u hs := by rwa [sweepsOf_congr h.sweeps]

section
variable {u : TowerIdx} {z : ZoneIdx} {w : MotionZone} {q : List DriveEntry} {g : Option Target}

/-- A zone whose Key Target is written and handed on agrees with it. -/
theorem handedFields_consistent (h : ZoneConsistent w g) (k : Nat) (near inPhase : Bool) (g' : Target) :
    ZoneConsistent (handedFields u z k near inPhase w q).1 (some g') := by
  obtain ⟨commanded, -, -⟩ := h
  unfold handedFields
  split
  · next rest =>
    have none : w.commanded.isSome = false := by
      obtain h | h | h := MotionState.resting_iff.1 rest <;> simpa [h] using commanded
    cases near <;> simp [ZoneConsistent, none]
  · next rest =>
    have moved : ∀ w' : MotionZone, w'.state = w.state → (w'.commanded.isSome ↔ w'.state = .moving ∨ w'.state = .retry) →
        ZoneConsistent w' (some g') := fun w' same commanded' =>
      ⟨commanded', fun _ => rfl, fun noTarget => absurd (MotionState.resting_iff.2 (.inl (same ▸ noTarget))) rest⟩
    split
    · next retarget =>
      have flight := MotionState.inFlight_iff.1 retarget.1
      split
      · exact moved _ rfl ⟨fun _ => flight, fun _ => rfl⟩
      · exact moved _ rfl ⟨fun _ => flight, fun _ => rfl⟩
    · exact moved w rfl commanded

/-- A zone that loses its Key Target and is told so agrees with it. -/
theorem withoutTarget_consistent (h : ZoneConsistent w g) :
    ZoneConsistent { w with state := w.state.withoutTarget } none := by
  obtain ⟨commanded, -, -⟩ := h
  cases m : w.state <;> simp_all [ZoneConsistent, MotionState.withoutTarget]

end

theorem rewriteTarget_kept (u : TowerIdx) (z : ZoneIdx) (g : Target) (k : Nat) (s : State) :
    MotionKept s (rewriteTarget u z g k s) := by
  refine (rewriteTarget_handing u z g k s).kept fun v x h => ?_
  by_cases here : u = v ∧ z = x
  · obtain ⟨rfl, rfl⟩ := here
    have target : (rewriteTarget u z g k s).targetOf u z = some { g with k := k } :=
      (handTarget_targetOf ..).trans ((putTarget_targetOf ..).trans (if_pos ⟨rfl, rfl⟩))
    rw [target, rewriteTarget, handTarget_zone_eq]
    exact handedFields_consistent h ..
  · have same := (rewriteTarget_locally u z g k).outside s v x here
    rwa [same.zone, same.target]

theorem zoneUpdate_kept (u : TowerIdx) (z : ZoneIdx) (s : State) : MotionKept s (zoneUpdate u z s) := by
  unfold zoneUpdate
  split
  · exact .refl s
  · split
    · exact rewriteTarget_kept ..
    · exact .refl s

theorem zoneUpdates_kept (u : TowerIdx) (zs : List ZoneIdx) (s : State) : MotionKept s (zoneUpdates u zs s) :=
  .foldl (fun s z => zoneUpdate_kept u z s) zs s

theorem clampTarget_kept (u : TowerIdx) (keyMax : Nat) (z : ZoneIdx) (s : State) :
    MotionKept s (clampTarget u keyMax z s) := by
  unfold clampTarget
  split
  · exact .refl s
  · split
    · exact rewriteTarget_kept ..
    · exact .refl s

theorem clampTargets_kept (u : TowerIdx) (keyMax : Nat) (s : State) : MotionKept s (clampTargets u keyMax s) :=
  .foldl (fun s z => clampTarget_kept u keyMax z s) allZones s

theorem settleTest_kept_motion (u : TowerIdx) (s : State) : MotionKept s (settleTest u s) := by
  have motion := settleTest_motion u s
  refine .of_same ?_ (by rw [(settleTest_frame u s).engine]) ?_ ?_ ?_
  · rw [motion]
  · rw [motion]
  · rw [motion]
  · rw [motion]

/-! ### Dispatch Scans -/

theorem scanStep_kept {s t : State} (step : scanStep s = some t) : MotionKept s t := by
  have scanned := scanStep_scanned step
  obtain ⟨u, z, g, -, -, pending, target, rfl⟩ := scanStep_starts step
  have zone : ∀ v x, ((startMove u z g.k s).setMotion { (startMove u z g.k s).motion with pointer := u + 1 }).zone v x
      = if u = v ∧ z = x then { s.zone u z with state := .moving, commanded := some g.k, tag := (s.zone u z).tag + 1 }
        else s.zone v x := startMove_zone u z g.k s
  have moves : ∀ v x, ((startMove u z g.k s).setMotion { (startMove u z g.k s).motion with pointer := u + 1 }).moves v x
      = s.moves v x ++ if u = v ∧ z = x then [.move u z g.k ((s.zone u z).tag + 1)] else [] :=
    fun v x => filter_append_move ..
  refine ⟨fun v x h => ?_, fun h => h.place (z := z) (fun v x other => (zone v x).trans (if_neg other)) ?_ ?_ rfl rfl,
    fun v x h => ?_, fun v h => by rwa [sweepsOf_congr scanned.sweeps]⟩
  · rw [zone, scanned.targetOf]
    split
    · simp [ZoneConsistent]
    · exact h
  · rw [pending]
    rfl
  · rw [zone, if_pos ⟨rfl, rfl⟩]
    rfl
  · rw [zone, moves]
    split
    · next here =>
      obtain ⟨rfl, rfl⟩ := here
      obtain ⟨none, timer⟩ := h.of_resting (by rw [pending]; rfl)
      rw [none]
      exact ⟨.inr ⟨g.k, rfl, rfl, rfl, timer⟩, fun _ => rfl⟩
    · rwa [List.append_nil]

theorem dispatchScan_kept (s : State) : MotionKept s (dispatchScan s) :=
  dispatchScan_keeps (P := MotionKept s) (fun _ _ h step => h.trans (scanStep_kept step)) (.refl s)

theorem scanIfPending_kept (b s : State) : MotionKept s (scanIfPending b s) := by
  unfold scanIfPending
  split
  · exact dispatchScan_kept s
  · exact .refl s

/-! ### The end of a move (R89, R90, R93) -/

/-- A move that ends: the zone leaves MOVING or RETRY with its timer stopped and its commanded target absent, and its place is
released; no MOVE of it was queued. -/
theorem MotionKept.ended {s t : State} {u : TowerIdx} {z : ZoneIdx} (flight : (s.zone u z).state.inFlight = true)
    (sent : QueuedMove u z (s.zone u z) (s.moves u z) → s.moves u z = [])
    (others : ∀ v x, ¬ (u = v ∧ z = x) → t.zone v x = s.zone v x) (engine : t.engine = s.engine)
    (queue : t.motion.queue = s.motion.queue)
    (inFlight : t.motion.inFlight = put s.motion.inFlight u (look s.motion.inFlight u - 1))
    (press : t.motion.pressInFlight = s.motion.pressInFlight - 1) (rests : (t.zone u z).state.inFlight = false)
    (commanded : (t.zone u z).commanded = none) (timer : (t.zone u z).timer = none)
    (target : ((t.zone u z).state = .atTarget ∨ (t.zone u z).state = .pending → (s.targetOf u z).isSome)
      ∧ ((t.zone u z).state = .noTarget → s.targetOf u z = none)) : MotionKept s t where
  consistent v x h := by
    rw [targetOf_congr engine]
    by_cases here : u = v ∧ z = x
    · obtain ⟨rfl, rfl⟩ := here
      refine ⟨?_, target⟩
      rw [commanded, ← MotionState.inFlight_iff, rests]
      simp
    · rwa [others v x here]
  counts h := h.release others flight rests inFlight press
  moves v x h := by
    rw [moves_congr queue]
    by_cases here : u = v ∧ z = x
    · obtain ⟨rfl, rfl⟩ := here
      rw [sent h]
      exact queuedMove_nil timer
    · rwa [others v x here]
  sweeps v h := by rwa [sweepsOf_congr (sweeps_congr queue)]

section
variable (u : TowerIdx) (z : ZoneIdx) (s : State)

theorem endMove_zone (v : TowerIdx) (x : ZoneIdx) : (endMove u z s).zone v x
    = if u = v ∧ z = x then { s.zone u z with timer := none, commanded := none } else s.zone v x :=
  putZone_zone ..

theorem endMove_motion : (endMove u z s).motion = { s.motion with
    zones := zput s.motion.zones u z { s.zone u z with timer := none, commanded := none }
    inFlight := put s.motion.inFlight u (look s.motion.inFlight u - 1)
    pressInFlight := s.motion.pressInFlight - 1 } := rfl

/-- A failed move before its Dispatch Scan: FAULTED, KEY_FAULT raised (R90, R93). -/
def failedMove : State := raise .keyFault (some u) (.zone u z) (setMotionState u z .faulted (endMove u z s))

theorem failMove_eq : failMove u z s = dispatchScan (failedMove u z s) := rfl

theorem failedMove_motion : (failedMove u z s).motion = (setMotionState u z .faulted (endMove u z s)).motion :=
  (raise_frame _ _ _ _).motion

theorem failedMove_frame : OnlyChanges [.motion, .notice] s (failedMove u z s) :=
  OnlyChanges.after (raise_frame _ _ _ _) (OnlyChanges.after (setMotionState_frame _ _ _ _) ((endMove_frame u z s).mono (by decide)))

theorem failedMove_zone (v : TowerIdx) (x : ZoneIdx) : (failedMove u z s).zone v x
    = if u = v ∧ z = x then { s.zone u z with state := .faulted, timer := none, commanded := none } else s.zone v x := by
  rw [zone_congr (failedMove_motion u z s), setMotionState_zone, endMove_zone, endMove_zone, if_pos (⟨rfl, rfl⟩ : u = u ∧ z = z)]
  split
  · rfl
  · rfl

end

section
variable {s t : State} {u : TowerIdx} {z : ZoneIdx}

/-- The failure of a move in `s`, its timer perhaps stopped beforehand, as `t` has it. -/
theorem failMove_kept (flight : (s.zone u z).state.inFlight = true)
    (sent : QueuedMove u z (s.zone u z) (s.moves u z) → s.moves u z = []) (engine : t.engine = s.engine)
    (others : ∀ v x, ¬ (u = v ∧ z = x) → t.zone v x = s.zone v x)
    (motion : t.motion = { s.motion with zones := t.motion.zones }) : MotionKept s (failMove u z t) := by
  refine MotionKept.trans (.ended flight sent (fun v x other => ?_) ?_ ?_ ?_ ?_ ?_ ?_ ?_ ?_) (dispatchScan_kept (failedMove u z t))
  · rw [failedMove_zone, if_neg other, others v x other]
  · rw [(failedMove_frame u z t).engine, engine]
  · rw [failedMove_motion, setMotionState_motion, endMove_motion, motion]
  · rw [failedMove_motion, setMotionState_motion, endMove_motion, motion]
  · rw [failedMove_motion, setMotionState_motion, endMove_motion, motion]
  · rw [failedMove_zone, if_pos ⟨rfl, rfl⟩]; rfl
  · rw [failedMove_zone, if_pos ⟨rfl, rfl⟩]
  · rw [failedMove_zone, if_pos ⟨rfl, rfl⟩]
  · rw [failedMove_zone, if_pos ⟨rfl, rfl⟩]
    simp

end

/-- A matching ARRIVED report before its motion state is set: the move ended, settle-until written (R89). -/
def arrivedMove (u : TowerIdx) (z : ZoneIdx) (s : State) : State :=
  (endMove u z s).putZone u z { (endMove u z s).zone u z with settleUntil := (endMove u z s).settleFrom u }

section
variable (u : TowerIdx) (z : ZoneIdx) (s : State)

theorem arrived_eq : arrived u z s
    = dispatchScan (setMotionState u z ((arrivedMove u z s).arrivalState u z) (arrivedMove u z s)) := rfl

theorem arrivedMove_frame : OnlyChanges [.motion] s (arrivedMove u z s) := (endMove_frame u z s).trans (putZone_frame _ _ _ _)

theorem settleFrom_congr {s t : State} (jobs : t.jobs = s.jobs) (cycle : t.cycle = s.cycle) (u : TowerIdx) :
    t.settleFrom u = s.settleFrom u := by
  rw [State.settleFrom, State.settleFrom, cycle, tower_congr jobs]

theorem arrivedMove_zone (v : TowerIdx) (x : ZoneIdx) : (arrivedMove u z s).zone v x
    = if u = v ∧ z = x then { s.zone u z with timer := none, commanded := none, settleUntil := s.settleFrom u }
      else s.zone v x := by
  rw [arrivedMove, putZone_zone, endMove_zone, endMove_zone, if_pos (⟨rfl, rfl⟩ : u = u ∧ z = z),
    settleFrom_congr (endMove_frame u z s).jobs (endMove_frame u z s).cycle]
  split
  · rfl
  · rfl

theorem arrivalState_spec : (s.arrivalState u z).inFlight = false
    ∧ (s.arrivalState u z = .atTarget ∨ s.arrivalState u z = .pending → (s.targetOf u z).isSome)
    ∧ (s.arrivalState u z = .noTarget → s.targetOf u z = none) := by
  unfold State.arrivalState
  split
  · next none => simp [none, MotionState.inFlight]
  · next g target => split <;> simp [target, MotionState.inFlight]

theorem arrived_kept (flight : (s.zone u z).state.inFlight = true) (sent : s.moves u z = []) :
    MotionKept s (arrived u z s) := by
  obtain ⟨rests, target⟩ := arrivalState_spec u z (arrivedMove u z s)
  rw [targetOf_congr (arrivedMove_frame u z s).engine] at target
  rw [arrived_eq]
  refine MotionKept.trans (.ended flight (fun _ => sent) (fun v x other => ?_) ?_ ?_ ?_ ?_ ?_ ?_ ?_ ?_) (dispatchScan_kept _)
  · rw [setMotionState_zone, if_neg other, arrivedMove_zone, if_neg other]
  · rw [(setMotionState_frame _ _ _ _).engine, (arrivedMove_frame _ _ _).engine]
  · rw [setMotionState_motion]
    rfl
  · rw [setMotionState_motion]
    rfl
  · rw [setMotionState_motion]
    rfl
  · rw [setMotionState_zone, if_pos ⟨rfl, rfl⟩]
    exact rests
  · rw [setMotionState_zone, if_pos ⟨rfl, rfl⟩, arrivedMove_zone, if_pos ⟨rfl, rfl⟩]
  · rw [setMotionState_zone, if_pos ⟨rfl, rfl⟩, arrivedMove_zone, if_pos ⟨rfl, rfl⟩]
  · rw [setMotionState_zone, if_pos ⟨rfl, rfl⟩]
    exact target

end

/-! ### Key Reports and Move Timeouts -/

/-- A change of the fields of one zone that takes and gives no place and keeps what the queue and K say of it. -/
theorem MotionKept.of_zone {s t : State} {u : TowerIdx} {z : ZoneIdx} (engine : t.engine = s.engine)
    (others : ∀ v x, ¬ (u = v ∧ z = x) → t.zone v x = s.zone v x ∧ t.moves v x = s.moves v x)
    (inFlight : t.motion.inFlight = s.motion.inFlight) (press : t.motion.pressInFlight = s.motion.pressInFlight)
    (sweeps : t.sweeps = s.sweeps) (flight : (t.zone u z).state.inFlight = (s.zone u z).state.inFlight)
    (consistent : ZoneConsistent (s.zone u z) (s.targetOf u z) → ZoneConsistent (t.zone u z) (s.targetOf u z))
    (moves : QueuedMove u z (s.zone u z) (s.moves u z) → QueuedMove u z (t.zone u z) (t.moves u z)) : MotionKept s t where
  consistent v x h := by
    rw [targetOf_congr engine]
    by_cases here : u = v ∧ z = x
    · obtain ⟨rfl, rfl⟩ := here
      exact consistent h
    · rwa [(others v x here).1]
  counts h := h.congr (fun v x => by
    by_cases here : u = v ∧ z = x
    · obtain ⟨rfl, rfl⟩ := here
      exact flight
    · rw [(others v x here).1]) inFlight press
  moves v x h := by
    by_cases here : u = v ∧ z = x
    · obtain ⟨rfl, rfl⟩ := here
      exact moves h
    · rwa [(others v x here).1, (others v x here).2]
  sweeps v h := by rwa [sweepsOf_congr sweeps]

/-- Fields of a zone are replaced, its motion state and commanded target not among them. -/
theorem putZone_kept {s : State} {u : TowerIdx} {z : ZoneIdx} {w : MotionZone} (state : w.state = (s.zone u z).state)
    (commanded : w.commanded = (s.zone u z).commanded) (moves : QueuedMove u z (s.zone u z) (s.moves u z) →
      QueuedMove u z w (s.moves u z)) : MotionKept s (s.putZone u z w) := by
  have own : (s.putZone u z w).zone u z = w := (putZone_zone ..).trans (if_pos ⟨rfl, rfl⟩)
  refine .of_zone rfl (fun v x other => ⟨(putZone_zone ..).trans (if_neg other), rfl⟩) rfl rfl rfl (by rw [own, state]) ?_ ?_
  · rw [own]
    intro h
    unfold ZoneConsistent
    rwa [state, commanded]
  · rw [own]
    exact moves

theorem keyReport_kept (u : TowerIdx) (z : ZoneIdx) (tag : BitVec 8) (position : Nat) (stalled : Bool) (s : State) :
    MotionKept s (keyReport u z tag position stalled s) := by
  unfold keyReport
  dsimp only
  have recorded : MotionKept s (s.putZone u z { s.zone u z with actual := some (min position 4095) }) :=
    putZone_kept rfl rfl fun h => h
  split
  · next matching =>
    rw [State.reportMatches, Bool.and_eq_true, Bool.and_eq_true, moveQueued_eq, Bool.not_not] at matching
    obtain ⟨⟨flight, -⟩, sent⟩ := matching
    have sent := List.isEmpty_iff.1 sent
    split
    · exact recorded.trans (failMove_kept flight (fun _ => sent) rfl (fun _ _ _ => rfl) rfl)
    · exact recorded.trans (arrived_kept u z _ flight sent)
  · exact recorded

/-- A zone whose timer runs has no MOVE queued. -/
theorem QueuedMove.of_running {u : TowerIdx} {z : ZoneIdx} {w : MotionZone} {q : List DriveEntry} (h : QueuedMove u z w q)
    (running : w.timer ≠ none) : q = [] :=
  h.1.resolve_right fun ⟨_, _, _, _, stopped⟩ => running stopped

/-- The zone with its move timer stopped and the time base at its expiry or beyond (R91). -/
def State.expired (s : State) (u : TowerIdx) (z : ZoneIdx) (expiry : Nat) : State :=
  (s.setClock (max s.clock expiry)).putZone u z { s.zone u z with timer := none }

/-- The retry of a move: RETRY with a new tag (R92). -/
def State.retried (s : State) (u : TowerIdx) (z : ZoneIdx) : State :=
  setMotionState u z .retry (s.putZone u z { s.zone u z with tag := (s.zone u z).tag + 1 })

theorem moveTimeout_running {s : State} {u : TowerIdx} {z : ZoneIdx} {expiry : Nat} (h : (s.zone u z).timer = some expiry) :
    moveTimeout u z s = expireMove u z (s.expired u z expiry) := by
  simp only [moveTimeout, h]
  rfl

section
variable (s : State) (u : TowerIdx) (z : ZoneIdx) (expiry : Nat)

theorem expired_zone (v : TowerIdx) (x : ZoneIdx) :
    (s.expired u z expiry).zone v x = if u = v ∧ z = x then { s.zone u z with timer := none } else s.zone v x := putZone_zone ..

theorem retried_zone (v : TowerIdx) (x : ZoneIdx) : (s.retried u z).zone v x
    = if u = v ∧ z = x then { s.zone u z with state := .retry, tag := (s.zone u z).tag + 1 } else s.zone v x := by
  rw [State.retried, setMotionState_zone, putZone_zone, putZone_zone, if_pos (⟨rfl, rfl⟩ : u = u ∧ z = z)]
  split
  · rfl
  · rfl

theorem retried_motion : (s.retried u z).motion = { s.motion with
    zones := (s.retried u z).motion.zones, watch := (s.retried u z).motion.watch } := by
  rw [State.retried, setMotionState_motion]
  rfl

/-- The MOVE that a retry queues: with the same target and the new tag (R92). -/
def retryMove : List DriveEntry :=
  match (s.zone u z).commanded with
  | some k => [.move u z k ((s.zone u z).tag + 1)]
  | none => []

theorem retryMove_some {k : Nat} (commanded : (s.zone u z).commanded = some k) :
    retryMove s u z = [.move u z k ((s.zone u z).tag + 1)] := by
  simp only [retryMove, commanded]

theorem retryMove_none (none : (s.zone u z).commanded = none) : retryMove s u z = [] := by
  simp only [retryMove, none]

/-- The expiry from MOVING (R92). -/
theorem expireMove_moving (moving : (s.zone u z).state = .moving) : expireMove u z s
    = (s.retried u z).setMotion { (s.retried u z).motion with queue := (s.retried u z).motion.queue ++ retryMove s u z } := by
  unfold expireMove
  split
  · dsimp only
    split
    · next k commanded =>
      rw [retryMove_some s u z commanded]
      rfl
    · next none =>
      rw [retryMove_none s u z none, List.append_nil]
      exact (setMotion_self _).symm
  all_goals next other => rw [moving] at other; cases other

theorem expireMove_retry (retry : (s.zone u z).state = .retry) : expireMove u z s = failMove u z s := by
  unfold expireMove
  split
  case h_2 => rfl
  all_goals next other => rw [retry] at other; cases other

theorem expireMove_resting (rest : (s.zone u z).state.inFlight = false) : expireMove u z s = s := by
  unfold expireMove
  split
  case h_1 moving => simp [moving, MotionState.inFlight] at rest
  case h_2 retry => simp [retry, MotionState.inFlight] at rest
  all_goals rfl

end

/-- What the retry of a move leaves (R92): the zone in RETRY with a new tag and its timer stopped, and the MOVE with that tag at
the tail of the queue. -/
theorem MotionKept.retry {s t : State} {u : TowerIdx} {z : ZoneIdx} (moving : (s.zone u z).state = .moving)
    (running : (s.zone u z).timer ≠ none) (engine : t.engine = s.engine)
    (zone : ∀ v x, t.zone v x
      = if u = v ∧ z = x then { s.zone u z with state := .retry, tag := (s.zone u z).tag + 1, timer := none } else s.zone v x)
    (inFlight : t.motion.inFlight = s.motion.inFlight) (press : t.motion.pressInFlight = s.motion.pressInFlight)
    (queue : t.motion.queue = s.motion.queue ++ retryMove s u z) : MotionKept s t := by
  have own := (zone u z).trans (if_pos ⟨rfl, rfl⟩)
  have moves : ∀ v x, t.moves v x = s.moves v x ++ if u = v ∧ z = x then retryMove s u z else [] := fun v x => by
    unfold retryMove
    rw [State.moves, queue, retryMove]
    split
    · exact filter_append_move ..
    · simp [State.moves]
  have sweeps : t.sweeps = s.sweeps := by
    rw [State.sweeps, queue, List.filter_append, retryMove]
    split
    · simp [State.sweeps, DriveEntry.isSweep]
    · simp [State.sweeps]
  refine .of_zone engine (fun v x other => ⟨(zone v x).trans (if_neg other), ?_⟩) inFlight press sweeps
    (by rw [own, moving]; rfl) (fun h => ?_) (fun h => ?_)
  · rw [moves, if_neg other, List.append_nil]
  · rw [own]
    exact ⟨⟨fun _ => .inr rfl, fun _ => h.1.2 (.inl moving)⟩, by simp, by simp⟩
  · rw [own, moves, if_pos ⟨rfl, rfl⟩, h.of_running running, List.nil_append, retryMove]
    refine ⟨?_, fun running => absurd rfl running⟩
    split
    · next k commanded => exact .inr ⟨k, rfl, rfl, commanded, rfl⟩
    · exact .inl rfl

theorem expire_kept (s : State) (u : TowerIdx) (z : ZoneIdx) (expiry : Nat) (running : (s.zone u z).timer ≠ none) :
    MotionKept s (expireMove u z (s.expired u z expiry)) := by
  have own : (s.expired u z expiry).zone u z = { s.zone u z with timer := none } := (expired_zone ..).trans (if_pos ⟨rfl, rfl⟩)
  have state : ((s.expired u z expiry).zone u z).state = (s.zone u z).state := by rw [own]
  cases flight : (s.zone u z).state.inFlight with
  | true =>
    obtain moving | retry := MotionState.inFlight_iff.1 flight
    · rw [expireMove_moving _ u z (state.trans moving)]
      have motion := retried_motion (s.expired u z expiry) u z
      refine .retry moving running ?_ (fun v x => ?_) ?_ ?_ ?_
      · rw [setMotion_engine, State.retried, (setMotionState_frame u z .retry _).engine]
        rfl
      · rw [setMotion_zone, ← State.zone, retried_zone, own, expired_zone]
        split
        · rfl
        · rfl
      · rw [setMotion_motion, motion]
        rfl
      · rw [setMotion_motion, motion]
        rfl
      · rw [setMotion_motion, motion, retryMove, retryMove, own]
        rfl
    · rw [expireMove_retry _ u z (state.trans retry)]
      exact failMove_kept (t := s.expired u z expiry) flight (fun h => h.of_running running) rfl
        (fun v x other => (expired_zone ..).trans (if_neg other)) rfl
  | false =>
    rw [expireMove_resting _ u z ((congrArg MotionState.inFlight state).trans flight)]
    have clocked : MotionKept s (s.setClock (max s.clock expiry)) := .of_frame (setClock_frame s _)
    refine clocked.trans ?_
    unfold State.expired
    refine putZone_kept rfl rfl fun h => ?_
    have none : (s.setClock (max s.clock expiry)).moves u z = [] := h.of_running running
    rw [none]
    exact queuedMove_nil rfl

theorem moveTimeout_kept (u : TowerIdx) (z : ZoneIdx) (s : State) : MotionKept s (moveTimeout u z s) := by
  cases timer : (s.zone u z).timer with
  | none =>
    simp only [moveTimeout, timer]
    exact .refl s
  | some expiry =>
    rw [moveTimeout_running timer]
    exact expire_kept s u z expiry (by simp [timer])

theorem tick_kept (s : State) : MotionKept s (tick s) := by
  refine MotionKept.trans (.of_frame (setClock_frame s _)) (.foldl (fun s p => ?_) allPairs _)
  split
  · exact moveTimeout_kept ..
  · exact .refl s

end Sys2Proof.Machine
end

section
/-! SUPPORT. Every command keeps what agrees with the zones' motion states (R73, R76, R78). -/

set_option Elab.async false

namespace Sys2Proof.Machine

/-! ### Load requests -/

/-- A load request leaves the state, or the one its own checks accept. -/
theorem loadRequest_state {P : State → Prop} {p : List Byte} {fieldsOk : Bool} {refusal : List Byte}
    {body : SlotIdx → TowerIdx → Verdict} {s : State} (same : P s)
    (accepted : ∀ j u t extra, slotOf (u8 p 0) = some j → towerOf (u8 p 1) = some u → fieldsOk = true →
      (look s.jobs j).inRole .armed = false → body j u = .accept t extra → P t) :
    P (loadRequest p fieldsOk refusal body s).state := by
  unfold loadRequest
  dsimp only
  split
  · next j u slot tower =>
    split
    · next fields =>
      split
      · exact same
      · next unarmed =>
        split
        · exact same
        · next t extra accept => exact accepted j u t extra slot tower fields (Bool.eq_false_iff.2 unarmed) accept
    · exact same
  · exact same

/-! ### Hand-ons of whole towers -/

@[simp] theorem dropTargets_targetOf (p : TowerIdx → ZoneIdx → Bool) (s : State) (u : TowerIdx) (z : ZoneIdx) :
    (dropTargets p s).targetOf u z = if p u z then none else s.targetOf u z := by
  simp [dropTargets, State.targetOf]

/-- The zones of a tower lose E, B and K and are told so. -/
theorem dropped_kept (u : TowerIdx) (s : State) :
    MotionKept s (withdrawTargets u allZones (dropTargets (fun v _ => v == u) s)) := by
  have targets := dropTargets_frame (fun v _ => v == u) s
  refine ((dropTargets_handing _ s).trans (withdrawTargets_handing u allZones _)).kept fun v x h => ?_
  rw [withdrawTargets_zone, targetOf_congr (withdrawTargets_frame _ _ _).engine, dropTargets_targetOf, zone_congr targets.motion]
  by_cases here : u = v
  · subst here
    rw [if_pos ⟨rfl, mem_allZones x⟩, if_pos (by simp)]
    exact withoutTarget_consistent h
  · rw [if_neg fun both => here both.1, if_neg (by simpa using Ne.symm here)]
    exact h

theorem setTrim_kept (x : Trim) (s : State) : MotionKept s (s.setTrim x) := .of_blocks rfl rfl

theorem putPass_kept (u : TowerIdx) (x : TowerPass) (s : State) : MotionKept s (s.putPass u x) := .of_blocks rfl rfl

theorem setCycle_kept (x : Cycle) (s : State) : MotionKept s (s.setCycle x) := .of_blocks rfl rfl

theorem clearWatches_kept (p : TowerIdx → Bool) (s : State) : MotionKept s (clearWatches p s) :=
  .of_same rfl rfl rfl rfl rfl

theorem MotionKept.ite {c : Prop} [Decidable c] {s t r : State} (h : MotionKept s t) (h' : MotionKept s r) :
    MotionKept s (if c then t else r) := by
  split
  · exact h
  · exact h'

theorem disableTower_kept (u : TowerIdx) (s : State) : MotionKept s (disableTower u s) := by
  unfold disableTower
  refine (MotionKept.of_frame (leaveHold_frame u _)).after ((setTrim_kept _ _).after ((putPass_kept u _ _).after ?_))
  exact (dropped_kept u _).after (clearWatches_kept _ s)

theorem passCause_targets (u : TowerIdx) (s : State) : (passCause u s).engine.targets = s.engine.targets := by
  unfold passCause
  split
  · rfl
  · split
    · rfl
    · rfl

theorem passCause_kept (u : TowerIdx) (s : State) : MotionKept s (passCause u s) :=
  .of_blocks (passCause_frame u s).motion (passCause_targets u s)

theorem evalRestricted_kept (s : State) : MotionKept s (evalRestricted s) := by
  have engine := (evalRestricted_frame s).engine
  exact .of_same (by simp) (by rw [engine]) (by simp) (by simp) (by simp)

theorem configurePass_kept (u : TowerIdx) (old new : TowerSettings) (s : State) :
    MotionKept s (configurePass u old new s) := by
  unfold configurePass
  split
  · exact passCause_kept u s
  · split
    · exact (zoneUpdates_kept u _ _).after ((passCause_kept u _).after (putPass_kept u _ s))
    · exact passCause_kept u s

theorem handOnConfigure_kept (u : TowerIdx) (old new : TowerSettings) (s : State) :
    MotionKept s (handOnConfigure u old new s) := by
  unfold handOnConfigure
  refine (dispatchScan_kept _).after ((MotionKept.ite (configurePass_kept ..) (.refl _)).after ?_)
  refine (MotionKept.ite (evalRestricted_kept _) (.refl _)).after ?_
  exact (MotionKept.ite (disableTower_kept ..) (.refl _)).after (.ite (clampTargets_kept ..) (.refl s))

theorem configureTower_kept (p : List Byte) (s : State) : MotionKept s (configureTower p s).state := by
  unfold configureTower
  split
  · exact .refl s
  · refine loadRequest_state (.refl s) fun j u t extra _ _ _ _ accept => ?_
    obtain ⟨rfl, -⟩ := Verdict.accept.inj accept
    exact (MotionKept.ite (handOnConfigure_kept ..) (.refl _)).after (.of_frame (readiness_write_frame _ _ _ _))

theorem handOnTargets_kept (u : TowerIdx) (limit : Nat) (s : State) : MotionKept s (handOnTargets u limit s) :=
  (scanIfPending_kept _ _).after ((zoneUpdates_kept u _ _).after (setTrim_kept _ s))

theorem setTargets_kept (p : List Byte) (s : State) : MotionKept s (setTargets p s).state := by
  unfold setTargets
  split
  · exact .refl s
  · refine loadRequest_state (.refl s) fun j u t extra _ _ _ _ accept => ?_
    obtain ⟨rfl, -⟩ := Verdict.accept.inj accept
    exact (MotionKept.ite (handOnTargets_kept ..) (.refl _)).after (.of_frame (readiness_write_frame _ _ _ _))

/-- What an accepted Set Offsets leaves. -/
theorem offsetsBody_accept {p : List Byte} {s t : State} {j : SlotIdx} {u : TowerIdx} {extra : List Byte}
    (h : offsetsBody p s j u = .accept t extra) :
    ∃ m, (s.record j u).zoneMap = some m ∧ u8 p 2 + u8 p 3 ≤ m.zones ∧
      (let s1 := readinessEvaluation j (writeRecord j u { s.record j u with
          offsets := writeOffsets (s.record j u).offsets (u8 p 2) (s16s p 4 (u8 p 3)) } s)
       t = if s.isRunning j then scanIfPending s1 (zoneUpdates u (zoneRun (u8 p 2) (u8 p 3)) s1) else s1) := by
  unfold offsetsBody at h
  dsimp only at h
  split at h
  · cases h
  · next m map =>
    split at h
    · cases h
    · next fits => exact ⟨m, map, Nat.le_of_not_lt fits, (Verdict.accept.inj h).1.symm⟩

theorem setOffsets_kept (p : List Byte) (s : State) : MotionKept s (setOffsets p s).state := by
  unfold setOffsets
  dsimp only
  split
  · exact .refl s
  · split
    · exact .refl s
    · split
      · exact .refl s
      · refine loadRequest_state (.refl s) fun j u t extra _ _ _ _ accept => ?_
        obtain ⟨m, -, -, rfl⟩ := offsetsBody_accept accept
        refine MotionKept.after (.ite ?_ (.refl _)) (.of_frame (readiness_write_frame _ _ _ _))
        exact (scanIfPending_kept _ _).after (zoneUpdates_kept u _ _)

/-- What an accepted Strip Close leaves. -/
theorem closeBody_accept {s t : State} {j : SlotIdx} {u : TowerIdx} {extra : List Byte}
    (h : closeBody s j u = .accept t extra) :
    (s.record j u).strip = .opened ∧ ∃ m i b, (s.record j u).zoneMap = some m ∧ s.bufferOf j u = some (i, b) ∧
      extra = b.closeCounts ∧
      (let s1 := readinessEvaluation j (writeRecord j u { s.record j u with
          coverage := some (b.coverage m), strip := .closed } (s.putBuffer i none))
       t = if s.isRunning j && (s.record j u).enabled then passCause u s1 else s1) := by
  unfold closeBody at h
  dsimp only at h
  split at h
  · next opened =>
    split at h
    · next m ib map bound =>
      obtain ⟨state, fields⟩ := Verdict.accept.inj h
      exact ⟨opened, m, ib.1, ib.2, map, bound, fields.symm, state.symm⟩
    · cases h
  · cases h

theorem stripClose_kept (p : List Byte) (s : State) : MotionKept s (stripClose p s).state := by
  unfold stripClose
  split
  · exact .refl s
  · refine loadRequest_state (.refl s) fun j u t extra _ _ _ _ accept => ?_
    obtain ⟨-, m, i, b, -, -, -, rfl⟩ := closeBody_accept accept
    exact (MotionKept.ite (passCause_kept ..) (.refl _)).after
      ((MotionKept.of_frame (readiness_write_frame _ _ _ _)).after (.of_frame (setBuffers_frame s _)))

/-! ### Zone Computations -/

theorem isSweepOf_resweep (u v : TowerIdx) (n : Nat) (e : DriveEntry) : (e.resweep v n).isSweepOf u = e.isSweepOf u := by
  cases e with
  | move t z g tag => rfl
  | sweep t w =>
    simp only [DriveEntry.resweep]
    split
    · rfl
    · rfl

theorem isMoveOf_resweep (u v : TowerIdx) (z : ZoneIdx) (n : Nat) (e : DriveEntry) :
    (e.resweep v n).isMoveOf u z = e.isMoveOf u z := by
  cases e with
  | move t z g tag => rfl
  | sweep t w =>
    simp only [DriveEntry.resweep]
    split
    · rfl
    · rfl

/-- Replacing the value of a SWEEP leaves the MOVEs. -/
theorem moves_map_resweep (q : List DriveEntry) (u v : TowerIdx) (z : ZoneIdx) (n : Nat) :
    (q.map (DriveEntry.resweep v n)).filter (DriveEntry.isMoveOf u z) = q.filter (DriveEntry.isMoveOf u z) := by
  have same : DriveEntry.isMoveOf u z ∘ DriveEntry.resweep v n = DriveEntry.isMoveOf u z :=
    funext fun e => isMoveOf_resweep u v z n e
  rw [List.filter_map, same]
  refine (List.map_congr_left fun e member => ?_).trans (List.map_id _)
  obtain ⟨g, tag, rfl⟩ := isMoveOf_iff.1 (List.mem_filter.1 member).2
  rfl

theorem sweeps_map_resweep (q : List DriveEntry) (u v : TowerIdx) (n : Nat) :
    (q.map (DriveEntry.resweep v n)).filter (DriveEntry.isSweepOf u)
      = (q.filter (DriveEntry.isSweepOf u)).map (DriveEntry.resweep v n) := by
  have same : DriveEntry.isSweepOf u ∘ DriveEntry.resweep v n = DriveEntry.isSweepOf u :=
    funext fun e => isSweepOf_resweep u v n e
  rw [List.filter_map, same]

/-- The SWEEPs of a tower after a sweep has been handed on: that of the tower is the new one (R61). -/
theorem handSweep_sweepsOf (u : TowerIdx) (n : Nat) (s : State) (v : TowerIdx) : (handSweep u n s).sweepsOf v
    = if u = v then (if s.sweepsOf u = [] then [.sweep u n] else (s.sweepsOf u).map fun _ => .sweep u n) else s.sweepsOf v := by
  have queued : s.sweepQueued u = true ↔ s.sweepsOf u ≠ [] := by
    simp [State.sweepQueued, State.sweepsOf, List.filter_eq_nil_iff]
  have shape : ∀ w, ∀ e ∈ s.sweepsOf w, ∃ x, e = .sweep w x := by
    intro w e there
    have sweeps := (List.mem_filter.1 there).2
    cases e with
    | move t z g tag => simp [DriveEntry.isSweepOf] at sweeps
    | sweep t x =>
      obtain rfl : t = w := by simpa [DriveEntry.isSweepOf] using sweeps
      exact ⟨x, rfl⟩
  unfold handSweep
  split
  · next some =>
    have made : ∀ w, (s.setMotion { s.motion with queue := s.motion.queue.map (DriveEntry.resweep u n) }).sweepsOf w
        = (s.sweepsOf w).map (DriveEntry.resweep u n) := fun w => sweeps_map_resweep ..
    rw [made]
    split
    · next here =>
      subst here
      rw [if_neg (queued.1 some)]
      refine List.map_congr_left fun e there => ?_
      obtain ⟨x, rfl⟩ := shape u e there
      simp [DriveEntry.resweep]
    · next other =>
      refine (List.map_congr_left fun e there => ?_).trans (List.map_id _)
      obtain ⟨x, rfl⟩ := shape v e there
      simp [DriveEntry.resweep, Ne.symm other]
  · next none =>
    have empty : s.sweepsOf u = [] := not_ne_iff.1 fun some => none (queued.2 some)
    have made : ∀ w, (appendDrive (.sweep u n) s).sweepsOf w = s.sweepsOf w ++ if u = w then [.sweep u n] else [] := fun w => by
      rw [State.sweepsOf, appendDrive, setMotion_motion, List.filter_append, List.filter_singleton]
      simp [State.sweepsOf, DriveEntry.isSweepOf]
    rw [made]
    split
    · next here =>
      subst here
      rw [empty, List.nil_append]
    · rw [List.append_nil]

theorem handSweep_moves (u : TowerIdx) (n : Nat) (s : State) (v : TowerIdx) (z : ZoneIdx) :
    (handSweep u n s).moves v z = s.moves v z := by
  unfold handSweep
  split
  · exact moves_map_resweep ..
  · simp [State.moves, appendDrive, DriveEntry.isMoveOf]

theorem handSweep_motion (u : TowerIdx) (n : Nat) (s : State) :
    (handSweep u n s).motion = { s.motion with queue := (handSweep u n s).motion.queue } := by
  unfold handSweep
  split
  · rfl
  · rfl

/-- A sweep of at most 1000 that is handed on. -/
theorem handSweep_kept (u : TowerIdx) {n : Nat} (bound : n ≤ 1000) (s : State) : MotionKept s (handSweep u n s) := by
  have motion := handSweep_motion u n s
  have zone : ∀ v x, (handSweep u n s).zone v x = s.zone v x := fun v x => by
    rw [State.zone, motion]
    rfl
  refine ⟨fun v x h => ?_, fun h => h.congr (fun v x => by rw [zone]) (by rw [motion]) (by rw [motion]), fun v x h => ?_,
    fun v h => ?_⟩
  · rwa [zone, targetOf_congr (handSweep_frame u n s).engine]
  · rwa [zone, handSweep_moves]
  · rw [handSweep_sweepsOf]
    split
    · next here =>
      subst here
      split
      · exact ⟨le_rfl, fun v there => by
          obtain ⟨-, rfl⟩ := DriveEntry.sweep.inj (List.mem_singleton.1 there)
          exact bound⟩
      · refine ⟨by rw [List.length_map]; exact h.1, fun v there => ?_⟩
        obtain ⟨e, -, same⟩ := List.mem_map.1 there
        obtain ⟨-, rfl⟩ := DriveEntry.sweep.inj same
        exact bound
    · exact h

theorem completeSweep_kept (u : TowerIdx) (s : State) : MotionKept s (completeSweep u s) := by
  unfold completeSweep
  split
  · exact putPass_kept ..
  · refine MotionKept.ite (.of_frame (valueOrFree_frame _ s)) ?_
    exact (handSweep_kept u (Nat.min_le_left ..) _).after
      ((putPass_kept ..).after (.of_frame (valueOrFree_frame _ s)))

theorem setWatch_kept (u : TowerIdx) (s : State) : MotionKept s (setWatch u s) :=
  (settleTest_kept_motion u _).after (.of_same rfl rfl rfl rfl rfl)

theorem rerunOrEnd_kept (u : TowerIdx) (s : State) : MotionKept s (rerunOrEnd u s) :=
  .ite (putPass_kept ..) (putPass_kept ..)

theorem completePass_kept (u : TowerIdx) (s : State) : MotionKept s (completePass u s) :=
  (rerunOrEnd_kept u _).after ((MotionKept.of_frame (leaveHold_frame u _)).after
    ((setWatch_kept u _).after (completeSweep_kept u s)))

/-- E, B and K of the zone written and K handed on, with the Dispatch Scan of a zone that becomes PENDING; the cursor is still
to be advanced (R56, R80). -/
def computed (u : TowerIdx) (z : ZoneIdx) (s : State) : State :=
  scanIfPending s (rewriteTarget u z (computeZone u z s).1 (computeZone u z s).1.k (computeZone u z s).2)

theorem computeAt_eq (u : TowerIdx) (z : ZoneIdx) (s : State) : computeAt u z s
    = (computed u z s).putPass u { (computed u z s).pass u with cursor := ((computed u z s).pass u).cursor + 1 } := rfl

theorem computeAt_kept (u : TowerIdx) (z : ZoneIdx) (s : State) : MotionKept s (computeAt u z s) := by
  rw [computeAt_eq]
  refine (putPass_kept u _ (computed u z s)).after ((scanIfPending_kept s _).after ?_)
  exact (rewriteTarget_kept u z _ _ _).after (.of_frame (computeZone_frame u z s))

theorem zoneComputation_kept (u : TowerIdx) (s : State) : MotionKept s (zoneComputation u s) := by
  unfold zoneComputation
  split
  · split
    · exact .refl s
    · next z _ =>
      have computed := computeAt_kept u z s
      dsimp only
      split
      · exact (completePass_kept u _).after computed
      · exact computed
  · exact .refl s

/-! ### Limits, faults, trims -/

theorem setMotionLimits_kept (p : List Byte) (s : State) : MotionKept s (setMotionLimits p s).state := by
  unfold setMotionLimits
  split
  · exact .refl s
  · split
    · dsimp only
      exact (dispatchScan_kept _).after ((evalRestricted_kept _).after (.of_same rfl rfl rfl rfl rfl))
    · exact .refl s

/-- The state a cleared zone takes (R94). -/
def State.clearedState (s : State) (u : TowerIdx) (z : ZoneIdx) : MotionState :=
  if (s.targetOf u z).isSome then .pending else .noTarget

theorem clearFault_zone (u : TowerIdx) (z : ZoneIdx) (s : State) (v : TowerIdx) (x : ZoneIdx) : (clearFault u z s).zone v x
    = if u = v ∧ z = x then { s.zone u z with state := s.clearedState u z, actual := none } else s.zone v x := by
  rw [clearFault, setMotionState_zone, putZone_zone, putZone_zone, if_pos (⟨rfl, rfl⟩ : u = u ∧ z = z)]
  split
  · rfl
  · rfl

theorem clearFault_motion (u : TowerIdx) (z : ZoneIdx) (s : State) : (clearFault u z s).motion
    = { s.motion with zones := (clearFault u z s).motion.zones, watch := (clearFault u z s).motion.watch } := by
  rw [clearFault, setMotionState_motion]
  rfl

/-- The clearing of a zone that is in neither MOVING nor RETRY. -/
theorem clearFault_kept {u : TowerIdx} {z : ZoneIdx} {s : State} (rests : (s.zone u z).state.inFlight = false) :
    MotionKept s (clearFault u z s) := by
  have motion := clearFault_motion u z s
  have queue : (clearFault u z s).motion.queue = s.motion.queue := by rw [motion]
  have own := (clearFault_zone u z s u z).trans (if_pos ⟨rfl, rfl⟩)
  have flight : (s.clearedState u z).inFlight = false := by
    unfold State.clearedState
    split
    · rfl
    · rfl
  refine .of_zone (u := u) (z := z) (clearFault_frame u z s).engine
    (fun v x other => ⟨(clearFault_zone ..).trans (if_neg other), moves_congr queue v x⟩) (by rw [motion]) (by rw [motion])
    (sweeps_congr queue) ?_ (fun h => ?_) (fun h => ?_)
  · rw [own, rests, flight]
  · rw [own]
    obtain ⟨commanded, -⟩ := h
    rw [← MotionState.inFlight_iff, rests] at commanded
    refine ⟨?_, ?_⟩
    · rw [← MotionState.inFlight_iff, flight]
      exact commanded
    · unfold State.clearedState
      split
      · next some => simp [some]
      · next none => simpa using none
  · obtain ⟨none, timer⟩ := h.of_resting rests
    rw [own, moves_congr queue, none]
    exact queuedMove_nil timer

/-- A clearing leaves a zone that was in neither MOVING nor RETRY so. -/
theorem clearFault_rests {u : TowerIdx} {z : ZoneIdx} {s : State} {x : ZoneIdx} (rests : (s.zone u x).state.inFlight = false) :
    ((clearFault u z s).zone u x).state.inFlight = false := by
  rw [clearFault_zone]
  split
  · unfold State.clearedState
    split
    · rfl
    · rfl
  · exact rests

theorem clearFaults_kept (u : TowerIdx) (zs : List ZoneIdx) (s : State)
    (rests : ∀ z ∈ zs, (s.zone u z).state.inFlight = false) : MotionKept s (zs.foldl (fun s z => clearFault u z s) s) := by
  induction zs generalizing s with
  | nil => exact .refl s
  | cons z zs ih =>
    exact (clearFault_kept (rests z List.mem_cons_self)).trans
      (ih _ fun x there => clearFault_rests (rests x (List.mem_cons_of_mem z there)))

/-- The zones that a Clear Key Fault names are FAULTED. -/
theorem faultsNamed_faulted {s : State} {u : TowerIdx} {n : Nat} {zs : List ZoneIdx} (h : faultsNamed s u n = some zs) :
    ∀ z ∈ zs, (s.zone u z).state = .faulted := by
  unfold faultsNamed at h
  split at h
  · obtain rfl := Option.some.inj h
    intro z there
    simpa [State.faultedZones] using there
  · obtain ⟨z, -, rfl⟩ := Option.map_eq_some_iff.1 h
    intro y there
    split at there
    · next faulted => rwa [List.mem_singleton.1 there]
    · simp at there

theorem clearKeyFault_kept (p : List Byte) (s : State) : MotionKept s (clearKeyFault p s).state := by
  unfold clearKeyFault
  split
  · exact .refl s
  · split
    · exact .refl s
    · next u _ =>
      split
      · exact .refl s
      · exact .refl s
      · next zs named =>
        refine (scanIfPending_kept s _).after (clearFaults_kept u _ s fun z there => ?_)
        rw [faultsNamed_faulted named z there]
        rfl

theorem trimUpdate_kept (u : TowerIdx) (z : ZoneIdx) (d : Int) (step : Nat) (s : State) :
    MotionKept s (trimUpdate u z d step s) := by
  unfold trimUpdate
  dsimp only
  refine MotionKept.after (.ite (zoneUpdate_kept ..) (.refl _)) ?_
  exact MotionKept.after (.ite ((MotionKept.of_frame (raise_frame _ _ _ _)).after (setTrim_kept ..)) (.refl _))
    (setTrim_kept _ s)

theorem windowTest_kept (u : TowerIdx) (z : ZoneIdx) (avg : Nat) (s : State) : MotionKept s (windowTest u z avg s).1 := by
  unfold windowTest
  dsimp only
  split
  · exact .refl s
  · split
    · split
      · exact .of_frame (raise_frame _ _ _ _)
      · exact .refl s
      · exact trimUpdate_kept ..
    · exact .of_frame (raise_frame _ _ _ _)

theorem countReading_kept (u : TowerIdx) (z : ZoneIdx) (v : Nat) (s : State) : MotionKept s (countReading u z v s).1 := by
  unfold countReading
  dsimp only
  split
  · exact (windowTest_kept ..).after (setTrim_kept _ s)
  · exact setTrim_kept _ s

theorem takeReading_kept (u : TowerIdx) (z : ZoneIdx) (arrival v : Nat) (s : State) :
    MotionKept s (takeReading u z arrival v s).1 := by
  unfold takeReading
  split
  · exact .refl s
  · split
    · exact MotionKept.of_frame (averagingReset_frame u z s)
    · dsimp only
      exact (scanIfPending_kept s _).after (countReading_kept ..)

theorem takeReadings_kept (u : TowerIdx) (arrival n : Nat) (vals : List Nat) (s : State) :
    MotionKept s (takeReadings u arrival n vals s).1 := by
  induction vals generalizing n s with
  | nil => exact .refl s
  | cons v rest ih =>
    rw [takeReadings]
    dsimp only
    refine (ih _ _).after ?_
    split
    · exact takeReading_kept ..
    · exact .refl s

theorem takeDensity_kept (p : List Byte) (arrival : Nat) (s : State) : MotionKept s (takeDensity p arrival s) := by
  unfold takeDensity
  split
  · split
    · exact .refl s
    · exact MotionKept.after (.ite (setTrim_kept ..) (.refl _)) (takeReadings_kept ..)
  · exact .refl s

theorem densityFrameTaken_kept (s : State) : MotionKept s (densityFrameTaken s) := by
  unfold densityFrameTaken
  split
  · exact .refl s
  · exact (takeDensity_kept ..).after (.of_frame (setLink_frame s _))

theorem clearTrim_kept (p : List Byte) (s : State) : MotionKept s (clearTrim p s).state := by
  unfold clearTrim
  split
  · exact .refl s
  · split
    · exact .refl s
    · exact (scanIfPending_kept s _).after
        ((MotionKept.foldl (fun s (q : TowerIdx × ZoneIdx) => zoneUpdate_kept q.1 q.2 s) _ _).after (setTrim_kept _ s))

/-! ### Changeovers -/

theorem changeoverTower_handing (u : TowerIdx) (s : State) : Handing s (changeoverTower u s) :=
  (withdrawTargets_handing u _ s).trans (clampTargets_handing u _ _)

/-- The part of one tower in a changeover acts on its zones alone. -/
theorem changeoverTower_locally (u : TowerIdx) : Locally (fun v _ => u = v) (changeoverTower u) := by
  have parts : ∀ r : TowerSettings, Locally (fun v _ => u = v) fun s =>
      clampTargets u r.keyMax (withdrawTargets u (allZones.filter fun z => !r.covers z) s) := fun r =>
    (Locally.foldl_tower (withdrawTarget_locally u) _).comp (Locally.foldl_tower (clampTarget_locally u r.keyMax) allZones)
  refine ⟨changeoverTower_handing u, fun s v x other => (parts (s.tower u)).outside s v x other, fun s t context same => ?_⟩
  have inside := (parts (s.tower u)).inside s t context same
  intro v x here
  have first := inside v x here
  rwa [changeoverTower, changeoverTower, context.tower]

/-- The towers' parts one after the other: each zone is left as by that of its tower alone. -/
theorem changeoverTowers_sameAt (s : State) (u : TowerIdx) (z : ZoneIdx) :
    SameAt (changeoverTower u s) (allTowers.foldl (fun s t => changeoverTower t s) s) u z :=
  (Locally.foldl changeoverTower_locally (allTowers_nodup.imp fun other _ _ here there => other (here.trans there.symm)) s).2 u
    (mem_allTowers u) u z rfl

theorem changeoverTowers_handing (s : State) : Handing s (allTowers.foldl (fun s t => changeoverTower t s) s) :=
  .foldl changeoverTower_handing allTowers s

/-- The zones without a place lose E, B and K and are told so, then each tower's Key Targets are clamped (R66). -/
theorem changeoverDropped_kept (s : State) :
    MotionKept s (allTowers.foldl (fun s t => changeoverTower t s) (dropTargets (fun t z => !(s.tower t).covers z) s)) := by
  refine ((dropTargets_handing _ s).trans (changeoverTowers_handing _)).kept fun u z h => ?_
  have same := changeoverTowers_sameAt (dropTargets (fun t z => !(s.tower t).covers z) s) u z
  have targets := dropTargets_frame (fun t z => !(s.tower t).covers z) s
  rw [same.zone, same.target]
  refine (clampTargets_kept u _ _).consistent u z ?_
  rw [withdrawTargets_zone, targetOf_congr (withdrawTargets_frame _ _ _).engine, dropTargets_targetOf, zone_congr targets.motion,
    tower_congr targets.jobs]
  cases covered : (s.tower u).covers z with
  | true => simpa [covered] using h
  | false =>
    rw [if_pos (by simp [covered]), if_pos (by simp)]
    exact withoutTarget_consistent h

/-- Every ACTIVE pass is abandoned, and the tower sweep of a tower that is not enabled becomes absent (R66). -/
def State.passesAbandoned (s : State) : State := s.setEngine { s.engine with
  passes := tab fun t => { (s.pass t).abandon with sweep := if (s.tower t).enabled then (s.pass t).sweep else none } }

theorem changeoverTargets_eq (s : State) : changeoverTargets s = allTowers.foldl (fun s t => changeoverTower t s)
    (dropTargets (fun t z => !(s.passesAbandoned.tower t).covers z) s.passesAbandoned) := rfl

theorem changeoverTargets_kept (s : State) : MotionKept s (changeoverTargets s) := by
  rw [changeoverTargets_eq]
  exact (changeoverDropped_kept s.passesAbandoned).after (.of_blocks rfl rfl)

theorem beginPasses_kept (s : State) : MotionKept s (beginPasses s) :=
  .foldl (fun s u => .ite (passCause_kept u s) (.refl s)) allTowers s

theorem takeChangeover_kept (a : ArmedChangeover) (s : State) : MotionKept s (takeChangeover a s) :=
  (dispatchScan_kept _).after ((beginPasses_kept _).after ((setTrim_kept ..).after ((evalRestricted_kept _).after
    ((clearWatches_kept ..).after ((changeoverTargets_kept _).after
      ((MotionKept.of_frame (exchangeJobs_frame _ _)).after (.of_frame (setCycle_frame s _))))))))

theorem takeArmed_kept (s : State) : MotionKept s (takeArmed s) := by
  unfold takeArmed
  split
  · exact takeChangeover_kept _ s
  · exact .refl s

theorem pressPhase_kept (p : List Byte) (s : State) : MotionKept s (pressPhase p s).state := by
  unfold pressPhase
  split
  · exact .refl s
  · split
    · exact .refl s
    · exact MotionKept.after (.ite (.refl _) (dispatchScan_kept _))
        (MotionKept.after (.ite (takeArmed_kept _) (.refl _)) (.of_frame (setCycle_frame s _)))

theorem changeover_kept (p : List Byte) (s : State) : MotionKept s (changeover p s).state := by
  unfold changeover
  dsimp only
  split
  · exact .refl s
  · split
    · exact .refl s
    · split
      · split
        · exact .refl s
        · split
          · exact .refl s
          · split
            · exact .refl s
            · have armed : ∀ x y z, MotionKept s ((s.putJob x y).setCycle z) := fun x y z => .of_blocks rfl rfl
              split
              · dsimp only
                exact (takeArmed_kept _).after (armed ..)
              · exact armed ..
      · exact .refl s

theorem sheetMark_kept (s : State) : MotionKept s (sheetMark s) := by
  unfold sheetMark
  split
  · exact .refl s
  · exact (takeArmed_kept _).after (setCycle_kept _ s)

/-! ### Arrival and sending -/

theorem routeD_kept (f : Frame) (s : State) : MotionKept s (routeD f s) := by
  unfold routeD
  split
  · unfold takeKeyReport
    split
    · split
      · exact .refl s
      · exact .ite (keyReport_kept ..) (.refl s)
    · exact .refl s
  · exact .ite (.refl s) (.of_frame (placeUp_frame f s))

theorem receive_kept {p : Port} {route : Frame → State → State} (h : ∀ f s, MotionKept s (route f s)) (bytes : List Byte)
    (s : State) : MotionKept s (receive p route bytes s) := by
  unfold receive
  refine .ite (.refl s) ?_
  split
  · exact .of_frame (raise_frame _ _ _ _)
  · exact h _ s

/-- The zone of a MOVE that is sent has no other queued, and its timer starts (R77, R91). -/
theorem arbitrateD_kept (s : State) : MotionKept s (arbitrateD s) := by
  unfold arbitrateD
  split
  · next e rest queue =>
    cases e with
    | sweep u n =>
      have moves : ∀ v x, (sendDrive (.sweep u n) rest s).moves v x = s.moves v x := fun v x => by
        simp only [State.moves, queue]
        rfl
      refine ⟨fun v x h => h, fun h => h, fun v x h => by rwa [moves], fun v h => ?_⟩
      obtain ⟨one, bound⟩ := h
      have sub : ((sendDrive (.sweep u n) rest s).sweepsOf v).Sublist (s.sweepsOf v) := by
        rw [State.sweepsOf, State.sweepsOf, queue]
        exact (List.sublist_cons_self _ rest).filter _
      exact ⟨sub.length_le.trans one, fun w there => bound w (sub.subset there)⟩
    | move u z g tag =>
      have own : (sendDrive (.move u z g tag) rest s).zone u z = { s.zone u z with timer := some (s.clock + s.timeoutPeriod) } :=
        (putZone_zone ..).trans (if_pos ⟨rfl, rfl⟩)
      have moves : ∀ v x, s.moves v x = (if u = v ∧ z = x then [.move u z g tag] else [])
          ++ (sendDrive (.move u z g tag) rest s).moves v x := fun v x => by
        simp only [State.moves, queue, List.filter_cons, isMoveOf_move, decide_eq_true_eq]
        split
        · rfl
        · rfl
      refine .of_zone (u := u) (z := z) rfl (fun v x other => ⟨(putZone_zone ..).trans (if_neg other), ?_⟩) rfl rfl ?_ (by rw [own])
        (fun h => by rw [own]; exact h) (fun h => ?_)
      · rw [moves, if_neg other, List.nil_append]
      · rw [State.sweeps, State.sweeps, queue]
        rfl
      · rw [moves, if_pos ⟨rfl, rfl⟩] at h
        obtain ⟨none | ⟨g', one, flight, -⟩, -⟩ := h
        · simp at none
        · have sent : (sendDrive (.move u z g tag) rest s).moves u z = [] := (List.cons.inj one).2
          rw [own, sent]
          exact ⟨.inl rfl, fun _ => flight⟩
  · split
    · exact .of_frame (setLink_frame s _)
    · exact .of_frame (setLink_frame s _)

/-! ### Resets and the whole -/

/-- A state that meets the invariants outright. -/
theorem MotionKept.of_holds {s t : State} (consistent : MotionConsistent t) (counts : CountsExact t)
    (queue : DriveQueueConsistent t) : MotionKept s t where
  consistent u z _ := consistent u z
  counts _ := counts
  moves u z _ := (driveQueueConsistent_iff.1 queue).1 u z
  sweeps u _ := (driveQueueConsistent_iff.1 queue).2 u

theorem takeRequest_kept {k : RequestKind} {g : List Byte → State → Reply} (h : ∀ p s, MotionKept s (g p s).state) (s : State) :
    MotionKept s (takeRequest k g s) := by
  obtain idle | ⟨f, rest, -, taken⟩ := takeRequest_cases k g s
  · rw [idle]
    exact .refl s
  · rw [taken]
    exact (MotionKept.of_frame (answer_frame _ _ _ _)).after ((h _ _).after (.of_frame (taken_frame s rest)))

/-- The commands that may change the Motion Scheduler or the Zone Engine. -/
theorem motion_or_engine {c : Instr} (h : ¬ (Block.motion ∉ c.changes ∧ Block.engine ∉ c.changes)) :
    (∃ k, (c, k) ∈ requestCommands ∧ k ≠ .bridgeReset) ∨ c = .bridgeReset ∨ (∃ u, c = .zoneComputation u)
      ∨ (∃ u z, c = .moveTimeout u z) ∨ c = .densityFrameTaken ∨ c = .sheetMark ∨ (∃ bytes, c = .portDFrameReceived bytes)
      ∨ c = .portDTransmitArbiter ∨ c = .powerOnReset := by
  cases c <;> simp [Instr.changes, requestCommands] at h ⊢

theorem handler_kept {k : RequestKind} (h : k ≠ .bridgeReset) (p : List Byte) (s : State) :
    MotionKept s (k.handler p s).state := by
  cases k
  case loadCurve => exact .of_frame (loadCurve_frame p s)
  case eraseCurve => exact .of_frame (eraseCurve_frame p s)
  case readCurve => exact .refl s
  case setJobLabel => exact .of_frame (setJobLabel_frame p s)
  case configureTower => exact configureTower_kept p s
  case setTargets => exact setTargets_kept p s
  case loadZoneMap => exact .of_frame (loadZoneMap_frame p s)
  case setOffsets => exact setOffsets_kept p s
  case clearJob => exact .of_frame (clearJob_frame p s)
  case readSettings => exact .refl s
  case stripOpen => exact .of_frame (stripOpen_frame p s)
  case stripSegment => exact .of_frame (stripSegment_frame p s)
  case stripClose => exact stripClose_kept p s
  case setMotionLimits => exact setMotionLimits_kept p s
  case clearKeyFault => exact clearKeyFault_kept p s
  case armTrim => exact .of_frame (armTrim_frame p s)
  case clearTrim => exact clearTrim_kept p s
  case loadTrimBands => exact .of_frame (loadTrimBands_frame p s)
  case pressPhase => exact pressPhase_kept p s
  case changeover => exact changeover_kept p s
  case cancelChangeover => exact .of_frame (cancelChangeover_frame p s)
  case setNoticeControl => exact .of_frame (setNoticeControl_frame p s)
  case clearPending => exact .of_frame (clearPending_frame p s)
  case readZone => exact .refl s
  case readTower => exact .refl s
  case readStatus => exact .refl s
  case bridgeReset => exact absurd rfl h

theorem bridgeReset_kept (p : List Byte) (s : State) : MotionKept s (bridgeReset p s).state := by
  unfold bridgeReset
  split
  · exact .refl s
  · have zone : ∀ u z, s.bridgeReset.zone u z = { MotionZone.reset with tag := (s.zone u z).tag } := s.bridgeReset_zone
    have target : ∀ u z, s.bridgeReset.targetOf u z = none := reset_targetOf
    have still : ∀ u, s.bridgeReset.moving u = 0 := by simp [State.moving, zone, MotionZone.reset, MotionState.inFlight]
    refine MotionKept.of_holds (t := s.bridgeReset) (fun u z => ?_) ⟨fun u => ?_, ?_⟩ (driveQueueConsistent_iff.2
      ⟨fun u z => ?_, fun u => ⟨Nat.zero_le _, fun v there => absurd there List.not_mem_nil⟩⟩)
    · rw [zone, target]
      simp [MotionZone.reset]
    · rw [still]
      exact look_replicate 0 u
    · simp only [funext still]
      rfl
    · rw [zone]
      exact queuedMove_nil rfl

theorem exec_kept {c : Instr} {s t : State} (h : exec c s = .next t) : MotionKept s t := by
  by_cases still : Block.motion ∉ c.changes ∧ Block.engine ∉ c.changes
  · exact .of_frame (exec_frame h) still.1 still.2
  obtain ⟨k, request, other⟩ | rfl | ⟨u, rfl⟩ | ⟨u, z, rfl⟩ | rfl | rfl | ⟨bytes, rfl⟩ | rfl | rfl := motion_or_engine still
  · rw [exec_request request] at h
    exact Host.Outcome.next.inj h ▸ takeRequest_kept (handler_kept other) s
  all_goals rw [← Host.Outcome.next.inj h]
  · exact takeRequest_kept bridgeReset_kept s
  · exact zoneComputation_kept u s
  · exact moveTimeout_kept u z s
  · exact densityFrameTaken_kept s
  · exact sheetMark_kept s
  · exact receive_kept routeD_kept bytes s
  · exact arbitrateD_kept s
  · exact .of_holds (motionConsistent_reset) countsExact_reset driveQueueConsistent_reset

end Sys2Proof.Machine
end

section
/-! PROOF. Key motion (chapter 5): motion fields, in-flight counts and the Drive Command Queue in agreement. -/

set_option Elab.async false

namespace Sys2Proof.Machine

theorem step_kept {s t : State} (h : step s = .next t) : MotionKept s t := by
  obtain ticked | ⟨c, rest, -, ran⟩ := step_cases h
  · exact ticked ▸ tick_kept s
  · have queued : MotionKept s (s.setPending rest) := .of_blocks rfl rfl
    exact (exec_kept ran).after queued

/-- Settles O59: one millisecond and every command are made of operations that keep the agreement zone by zone. -/
theorem everyStepKeepsMotionCountsAndDriveQueue : Obligations.EveryStepKeepsMotionCountsAndDriveQueue := by
  unfold Obligations.EveryStepKeepsMotionCountsAndDriveQueue
  refine ⟨fun s t holds h u z => (step_kept h).consistent u z (holds u z), fun s t holds h => (step_kept h).counts holds,
    fun s t holds h => ?_⟩
  obtain ⟨moves, sweeps⟩ := driveQueueConsistent_iff.1 holds
  exact driveQueueConsistent_iff.2
    ⟨fun u z => (step_kept h).moves u z (moves u z), fun u => (step_kept h).sweeps u (sweeps u)⟩

end Sys2Proof.Machine
end

section
/-! SUPPORT. The Job Slots after every operation on them: the states of both slots, the records of the slot written, the job that
is RUNNING (R15, R16, R21, R128). -/

set_option Elab.async false

namespace Sys2Proof.Machine

/-! ### The states of the two slots -/

/-- The two slots are RUNNING and ARMED as before, and so is the armed changeover's slot. -/
structure RolesKept (s t : State) : Prop where
  running : ∀ j, (look t.jobs j).inRole .running = (look s.jobs j).inRole .running
  armed : ∀ j, (look t.jobs j).inRole .armed = (look s.jobs j).inRole .armed
  record : t.cycle.armed = s.cycle.armed

theorem RolesKept.of_same {s t : State} (jobs : t.jobs = s.jobs) (record : t.cycle.armed = s.cycle.armed) : RolesKept s t :=
  ⟨fun j => by rw [jobs], fun j => by rw [jobs], record⟩

theorem RolesKept.of_frame {bs : List Block} {s t : State} (frame : OnlyChanges bs s t) (jobs : Block.jobs ∉ bs := by decide)
    (cycle : Block.cycle ∉ bs := by decide) : RolesKept s t := .of_same (frame.jobs jobs) (by rw [frame.cycle cycle])

theorem JobRolesConsistent.congr {s t : State} (h : JobRolesConsistent s) (kept : RolesKept s t) : JobRolesConsistent t := by
  unfold JobRolesConsistent at *
  simpa only [kept.running, kept.armed, kept.record] using h

theorem RolesKept.runningSlot {s t : State} (h : RolesKept s t) : t.runningSlot = s.runningSlot := by
  simp only [State.runningSlot, h.running]

/-- There are two slots. -/
theorem slot_zero_or_one (j : SlotIdx) : j = 0 ∨ j = 1 := by
  fin_cases j
  · exact .inl rfl
  · exact .inr rfl

/-- Two slots other than a third are the same. -/
theorem slot_other_unique {i j k : SlotIdx} (hi : i ≠ j) (hk : k ≠ j) : i = k := by
  have hi' : i.val ≠ j.val := fun same => hi (Fin.ext same)
  have hk' : k.val ≠ j.val := fun same => hk (Fin.ext same)
  exact Fin.ext (by omega)

theorem isRunning_of_runningSlot {s : State} {j : SlotIdx} (h : s.runningSlot = some j) : s.isRunning j = true := by
  unfold State.runningSlot at h
  split at h
  · next zero =>
    obtain rfl := Option.some.inj h
    exact zero
  · split at h
    · next one =>
      obtain rfl := Option.some.inj h
      exact one
    · cases h

theorem running_of_runningSlot {s : State} {j : SlotIdx} (h : s.runningSlot = some j) : s.running = (look s.jobs j).job := by
  simp only [State.running, h]

theorem tower_of_runningSlot {s : State} {j : SlotIdx} (h : s.runningSlot = some j) (u : TowerIdx) :
    s.tower u = s.record j u := by
  rw [State.tower, running_of_runningSlot h]
  rfl

theorem tower_of_none {s : State} (h : s.runningSlot = none) (u : TowerIdx) : s.tower u = .default := by
  simp [State.tower, State.running, h, Job.default]

/-- The only RUNNING slot is the running one. -/
theorem runningSlot_eq {s : State} {j : SlotIdx} (running : s.isRunning j = true)
    (single : ∀ i, i ≠ j → s.isRunning i = false) : s.runningSlot = some j := by
  cases h : s.runningSlot with
  | none =>
    have both : s.isRunning 0 = false ∧ s.isRunning 1 = false := by
      unfold State.runningSlot at h
      split at h
      · cases h
      · next zero =>
        split at h
        · cases h
        · next one => exact ⟨Bool.eq_false_iff.2 zero, Bool.eq_false_iff.2 one⟩
    obtain rfl | rfl := slot_zero_or_one j
    · simp [both.1] at running
    · simp [both.2] at running
  | some i =>
    by_contra other
    have not := single i fun same => other (by rw [same])
    simp [isRunning_of_runningSlot h] at not

theorem JobRolesConsistent.runningSlot_eq {s : State} (h : JobRolesConsistent s) {j : SlotIdx} (running : s.isRunning j = true) :
    s.runningSlot = some j := by
  refine Machine.runningSlot_eq running fun i other => Bool.eq_false_iff.2 fun running' => h.1 ?_
  obtain rfl | rfl := slot_zero_or_one j
  · obtain rfl := slot_other_unique other (by decide : (1 : SlotIdx) ≠ 0)
    exact ⟨running, running'⟩
  · obtain rfl := slot_other_unique other (by decide : (0 : SlotIdx) ≠ 1)
    exact ⟨running', running⟩

/-! ### A slot written (R16, R21) -/

/-- Of the Job Slots one has been written: its records are those given, its state is RUNNING or ARMED exactly where it was. -/
structure SlotWritten (s t : State) (j : SlotIdx) (towers : Vector TowerSettings 12) : Prop where
  running : (look t.jobs j).inRole .running = (look s.jobs j).inRole .running
  armed : (look t.jobs j).inRole .armed = (look s.jobs j).inRole .armed
  towers : (look t.jobs j).job.towers = towers
  others : ∀ i, i ≠ j → look t.jobs i = look s.jobs i

theorem afterEvaluation_roles (role : Role) (job job' : Job) :
    (JobSlot.held (role.afterEvaluation job) job').inRole .running = (JobSlot.held role job').inRole .running
      ∧ (JobSlot.held (role.afterEvaluation job) job').inRole .armed = (JobSlot.held role job').inRole .armed := by
  have prepared : job.preparedRole = .ready ∨ job.preparedRole = .loading := by
    unfold Job.preparedRole
    split
    · exact .inl rfl
    · exact .inr rfl
  cases role with
  | loading => obtain h | h := prepared <;> exact ⟨by simp [JobSlot.inRole, Role.afterEvaluation, h],
      by simp [JobSlot.inRole, Role.afterEvaluation, h]⟩
  | ready => obtain h | h := prepared <;> exact ⟨by simp [JobSlot.inRole, Role.afterEvaluation, h],
      by simp [JobSlot.inRole, Role.afterEvaluation, h]⟩
  | armed => exact ⟨rfl, rfl⟩
  | running => exact ⟨rfl, rfl⟩

/-- A Readiness Evaluation keeps the records and whether the slot is RUNNING or ARMED. -/
theorem slotWritten_evaluation (j : SlotIdx) (s : State) :
    SlotWritten s (readinessEvaluation j s) j (look s.jobs j).job.towers := by
  cases held : look s.jobs j with
  | empty =>
    have same : readinessEvaluation j s = s := by simp [readinessEvaluation, held]
    rw [same]
    exact ⟨rfl, rfl, by rw [held], fun _ _ => rfl⟩
  | held role job =>
    rw [readinessEvaluation_held held]
    have roles := afterEvaluation_roles role (job.evaluated s.library) (job.evaluated s.library)
    refine ⟨?_, ?_, ?_, fun i other => by rw [putJob_look, if_neg other.symm]⟩
    · rw [putJob_look, if_pos rfl, roles.1, held]
      rfl
    · rw [putJob_look, if_pos rfl, roles.2, held]
      rfl
    · rw [putJob_look, if_pos rfl]
      rfl

theorem slotWritten_store (j : SlotIdx) (job : Job) (s : State) : SlotWritten s (storeJob j job s) j job.towers := by
  rw [storeJob_eq]
  refine ⟨?_, ?_, ?_, fun i other => by rw [putJob_look, if_neg other.symm]⟩
  · rw [putJob_look, if_pos rfl]
    cases look s.jobs j <;> rfl
  · rw [putJob_look, if_pos rfl]
    cases look s.jobs j <;> rfl
  · rw [putJob_look, if_pos rfl]
    rfl

/-- A job stored in a slot with the Readiness Evaluation that follows. -/
theorem slotWritten_stored (j : SlotIdx) (job : Job) (s : State) :
    SlotWritten s (readinessEvaluation j (storeJob j job s)) j job.towers := by
  have stored := slotWritten_store j job s
  have evaluated := slotWritten_evaluation j (storeJob j job s)
  exact ⟨evaluated.running.trans stored.running, evaluated.armed.trans stored.armed, evaluated.towers.trans stored.towers,
    fun i other => (evaluated.others i other).trans (stored.others i other)⟩

theorem slotWritten_record (j : SlotIdx) (u : TowerIdx) (r : TowerSettings) (s : State) :
    SlotWritten s (readinessEvaluation j (writeRecord j u r s)) j (s.withRecord j u r) :=
  slotWritten_stored j { (look s.jobs j).job with towers := put (look s.jobs j).job.towers u r } s

section
variable {s t : State} {j : SlotIdx} {towers : Vector TowerSettings 12} (h : SlotWritten s t j towers)
include h

theorem SlotWritten.roles (i : SlotIdx) {role : Role} (which : role = .running ∨ role = .armed) :
    (look t.jobs i).inRole role = (look s.jobs i).inRole role := by
  by_cases here : i = j
  · obtain rfl | rfl := which
    · exact here ▸ h.running
    · exact here ▸ h.armed
  · rw [h.others i here]

theorem SlotWritten.rolesKept (record : t.cycle.armed = s.cycle.armed) : RolesKept s t :=
  ⟨fun i => h.roles i (.inl rfl), fun i => h.roles i (.inr rfl), record⟩

theorem SlotWritten.runningSlot : t.runningSlot = s.runningSlot := by
  simp only [State.runningSlot, h.roles _ (.inl rfl)]

theorem SlotWritten.record (i : SlotIdx) (u : TowerIdx) :
    t.record i u = if i = j then look towers u else s.record i u := by
  unfold State.record
  split
  · next here => rw [here, h.towers]
  · next other => rw [h.others i other]

/-- The settings in force after a slot is written. -/
theorem SlotWritten.tower (u : TowerIdx) : t.tower u = if s.runningSlot = some j then look towers u else s.tower u := by
  cases slot : s.runningSlot with
  | none => rw [tower_of_none slot, tower_of_none (h.runningSlot.trans slot), if_neg (by simp)]
  | some i =>
    rw [tower_of_runningSlot slot, tower_of_runningSlot (h.runningSlot.trans slot), h.record]
    by_cases here : i = j
    · simp [here]
    · simp [here]

end

/-- What stays of the settings in force when a record is written that agrees with the old one in a field. -/
theorem SlotWritten.field {s t : State} {j : SlotIdx} {u : TowerIdx} {r : TowerSettings} {α : Type}
    (h : SlotWritten s t j (s.withRecord j u r)) (f : TowerSettings → α) (same : f r = f (s.record j u)) (v : TowerIdx) :
    f (t.tower v) = f (s.tower v) := by
  rw [h.tower]
  split
  · next slot =>
    rw [tower_of_runningSlot slot, State.withRecord, look_put]
    split
    · next here => rw [same, here]
    · rfl
  · rfl

/-! ### A Library Change, an emptied slot -/

theorem afterLibraryChange_roles (lib : Library) (c : CurveIdx) (x : JobSlot) :
    (x.afterLibraryChange lib c).inRole .running = x.inRole .running
      ∧ (x.afterLibraryChange lib c).inRole .armed = x.inRole .armed
      ∧ (x.afterLibraryChange lib c).job.towers = x.job.towers := by
  cases x with
  | empty => exact ⟨rfl, rfl, rfl⟩
  | held role job =>
    simp only [JobSlot.afterLibraryChange]
    split
    · next touched =>
      obtain ⟨rfl | rfl, -⟩ := touched
      · have roles := afterEvaluation_roles .loading (job.reevaluate lib c) (job.reevaluate lib c)
        exact ⟨roles.1, roles.2, rfl⟩
      · have roles := afterEvaluation_roles .ready (job.reevaluate lib c) (job.reevaluate lib c)
        exact ⟨roles.1, roles.2, rfl⟩
    · exact ⟨rfl, rfl, rfl⟩

theorem changeLibrary_rolesKept (c : CurveIdx) (x : Option Curve) (s : State) : RolesKept s (changeLibrary c x s) := by
  refine ⟨fun j => ?_, fun j => ?_, rfl⟩
  · rw [changeLibrary_job, (afterLibraryChange_roles _ c _).1]
  · rw [changeLibrary_job, (afterLibraryChange_roles _ c _).2.1]

theorem changeLibrary_record (c : CurveIdx) (x : Option Curve) (s : State) (j : SlotIdx) (u : TowerIdx) :
    (changeLibrary c x s).record j u = s.record j u := by
  rw [State.record, State.record, changeLibrary_job, (afterLibraryChange_roles _ c _).2.2]

/-- Where the slots are RUNNING as before, the settings in force are those of the records. -/
theorem tower_of_records {s t : State} (slot : t.runningSlot = s.runningSlot)
    (records : ∀ j u, s.runningSlot = some j → t.record j u = s.record j u) (u : TowerIdx) : t.tower u = s.tower u := by
  cases running : s.runningSlot with
  | none => rw [tower_of_none running, tower_of_none (slot.trans running)]
  | some j => rw [tower_of_runningSlot running, tower_of_runningSlot (slot.trans running), records j u running]

/-- What Load Curve and Erase Curve leave: the state, or that of a Library Change. -/
theorem loadCurve_state {P : State → Prop} {s : State} (same : P s) (changed : ∀ c x, P (changeLibrary c x s)) (p : List Byte) :
    P (loadCurve p s).state := by
  unfold loadCurve
  dsimp only
  repeat' split
  all_goals first | exact same | exact changed _ _

theorem eraseCurve_state {P : State → Prop} {s : State} (same : P s) (changed : ∀ c x, P (changeLibrary c x s)) (p : List Byte) :
    P (eraseCurve p s).state := by
  unfold eraseCurve
  repeat' split
  all_goals first | exact same | exact changed _ _

/-- What Set Job Label leaves: the state, or that of the stored job with the same records. -/
theorem setJobLabel_state {P : State → Prop} {s : State} (same : P s)
    (stored : ∀ j label, P (readinessEvaluation j (storeJob j { (look s.jobs j).job with label := label } s))) (p : List Byte) :
    P (setJobLabel p s).state := by
  unfold setJobLabel
  dsimp only
  repeat' split
  all_goals first | exact same | exact stored _ _

/-- What Clear Job leaves: the state, or that of a slot being prepared emptied. -/
theorem clearJob_state {P : State → Prop} {s : State} (same : P s)
    (emptied : ∀ j role job, look s.jobs j = .held role job → (role = .loading ∨ role = .ready) → P (emptySlot j s))
    (p : List Byte) : P (clearJob p s).state := by
  unfold clearJob
  split
  · exact same
  · split
    · exact same
    · next j _ =>
      split
      · exact same
      · exact same
      · exact same
      · next job held => exact emptied j .loading job held (.inl rfl)
      · next job held => exact emptied j .ready job held (.inr rfl)

/-- An emptied slot that was being prepared was neither RUNNING nor ARMED. -/
theorem emptySlot_rolesKept {j : SlotIdx} {s : State} {role : Role} {job : Job} (held : look s.jobs j = .held role job)
    (prepared : role = .loading ∨ role = .ready) : RolesKept s (emptySlot j s) := by
  refine ⟨fun i => ?_, fun i => ?_, rfl⟩
  · rw [emptySlot_job]
    split
    · next here =>
      rw [← here, held]
      obtain rfl | rfl := prepared <;> rfl
    · rfl
  · rw [emptySlot_job]
    split
    · next here =>
      rw [← here, held]
      obtain rfl | rfl := prepared <;> rfl
    · rfl

/-! ### The exchange of the jobs (R128, step 2) -/

/-- The state in which the two slots stand when a changeover to slot `j` is taken: ARMED, and the other not. -/
theorem exchangeJobs_job {s : State} {j : SlotIdx} {job : Job} (armed : look s.jobs j = .held .armed job) (i : SlotIdx) :
    look (exchangeJobs j s).jobs i
      = if i = j then .held .running job else if s.isRunning i then .empty else look s.jobs i := by
  unfold exchangeJobs
  cases slot : s.runningSlot with
  | none =>
    rw [putJob_look]
    by_cases here : i = j
    · rw [if_pos here.symm, if_pos here, armed]
      rfl
    · have stopped : s.isRunning i = false := by
        refine Bool.eq_false_iff.2 fun running => ?_
        unfold State.runningSlot at slot
        obtain rfl | rfl := slot_zero_or_one i
        · rw [if_pos (show (look s.jobs 0).inRole .running = true from running)] at slot
          cases slot
        · split at slot
          · cases slot
          · rw [if_pos (show (look s.jobs 1).inRole .running = true from running)] at slot
            cases slot
      rw [if_neg (Ne.symm here), if_neg here, stopped]
      rfl
  | some k =>
    have running := isRunning_of_runningSlot slot
    have other : k ≠ j := by
      rintro rfl
      rw [State.isRunning, armed] at running
      cases running
    rw [putJob_look]
    by_cases here : i = j
    · rw [if_pos here.symm, if_pos here, emptySlot_job, if_neg other, armed]
      rfl
    · obtain rfl := slot_other_unique here other
      rw [if_neg (Ne.symm here), if_neg here, emptySlot_job, if_pos rfl, if_pos running]

theorem exchangeJobs_runningSlot {s : State} {j : SlotIdx} {job : Job} (armed : look s.jobs j = .held .armed job) :
    (exchangeJobs j s).runningSlot = some j := by
  refine runningSlot_eq ?_ fun i other => ?_
  · rw [State.isRunning, exchangeJobs_job armed, if_pos rfl]
    rfl
  · rw [State.isRunning, exchangeJobs_job armed, if_neg other]
    split
    · rfl
    · next stopped => exact Bool.eq_false_iff.2 stopped

theorem exchangeJobs_tower {s : State} {j : SlotIdx} {job : Job} (armed : look s.jobs j = .held .armed job) (u : TowerIdx) :
    (exchangeJobs j s).tower u = look job.towers u := by
  rw [tower_of_runningSlot (exchangeJobs_runningSlot armed), State.record, exchangeJobs_job armed, if_pos rfl]
  rfl

/-- The state after the first two steps of R128. -/
def State.exchanged (s : State) (j : SlotIdx) : State :=
  exchangeJobs j (s.setCycle
    { s.cycle with armed := none, hold := tab fun u => (look (look s.jobs j).job.towers u).enabled })

/-- What follows the exchange of the jobs in the taking of a changeover (R128, steps 3 to 6). -/
def State.afterExchange (s : State) (carry : Bool) : State :=
  dispatchScan (beginPasses (changeoverTrim carry (evalRestricted (clearWatches (fun _ => true) (changeoverTargets s)))))

theorem takeChangeover_eq (a : ArmedChangeover) (s : State) :
    takeChangeover a s = (s.exchanged a.slot).afterExchange a.carry := rfl

theorem afterExchange_frame (s : State) (carry : Bool) : OnlyChanges [.engine, .motion, .trim, .notice] s (s.afterExchange carry) :=
  .after (dispatchScan_frame _) (.after (beginPasses_frame _) (.after (changeoverTrim_frame _ _)
    (.after (evalRestricted_frame _) (.after (clearWatches_frame _ _) (.after (changeoverTargets_frame _) (.refl _ s))))))

theorem exchanged_frame (s : State) (j : SlotIdx) : OnlyChanges [.jobs, .buffers, .cycle] s (s.exchanged j) :=
  .after (exchangeJobs_frame _ _) (.after (setCycle_frame _ _) (.refl _ s))

/-- The Job Slots after the taking of a changeover are those of the exchange. -/
theorem takeChangeover_jobs (a : ArmedChangeover) (s : State) : (takeChangeover a s).jobs = (s.exchanged a.slot).jobs := by
  exact (afterExchange_frame (s.exchanged a.slot) a.carry).jobs

section
variable {s : State} {j : SlotIdx} {job : Job} (armed : look s.jobs j = .held .armed job)
include armed

theorem exchanged_job (i : SlotIdx) : look (s.exchanged j).jobs i
    = if i = j then .held .running job else if s.isRunning i then .empty else look s.jobs i :=
  exchangeJobs_job
    (s := s.setCycle { s.cycle with armed := none, hold := tab fun u => (look (look s.jobs j).job.towers u).enabled }) armed i

theorem exchanged_runningSlot : (s.exchanged j).runningSlot = some j := exchangeJobs_runningSlot
    (s := s.setCycle { s.cycle with armed := none, hold := tab fun u => (look (look s.jobs j).job.towers u).enabled }) armed

theorem exchanged_tower (u : TowerIdx) : (s.exchanged j).tower u = look job.towers u :=
  exchangeJobs_tower
    (s := s.setCycle { s.cycle with armed := none, hold := tab fun u => (look (look s.jobs j).job.towers u).enabled }) armed u

end

end Sys2Proof.Machine
end

section
/-! SUPPORT. The bounds of Key Targets and trims under every operation: K within the tower's key maximum (R59), trims within the
trim limit (R100, R116, R117), with the roles of the Job Slots (R15, R120). -/

set_option Elab.async false

namespace Sys2Proof.Machine

/-! ### What the bounds read -/

/-- The settings that bound a tower's Key Targets and trims. -/
def TowerSettings.bounds (r : TowerSettings) : Nat × Nat × Bool × Option ZoneMap := (r.keyMax, r.trimLimit, r.enabled, r.zoneMap)

/-- A trim that a zone may have under a record: within the trim limit, and 0 where the zone has no place. -/
def TowerSettings.fits (r : TowerSettings) (z : ZoneIdx) (x : Int) : Prop := |x| ≤ r.trimLimit ∧ (r.covers z = false → x = 0)

theorem TowerSettings.covers_eq_false {r : TowerSettings} {z : ZoneIdx} :
    r.covers z = false ↔ r.enabled = false ∨ ∀ m, r.zoneMap = some m → m.zones ≤ z.val := by
  unfold covers
  cases r.zoneMap with
  | none => simp
  | some m => cases r.enabled <;> simp

theorem TowerSettings.fits_zero (r : TowerSettings) (z : ZoneIdx) : r.fits z 0 := ⟨by simp, fun _ => rfl⟩

theorem TowerSettings.covers_congr {r r' : TowerSettings} (enabled : r'.enabled = r.enabled) (map : r'.zoneMap = r.zoneMap)
    (z : ZoneIdx) : r'.covers z = r.covers z := by
  unfold covers
  rw [enabled, map]

theorem bounds_keyMax {r r' : TowerSettings} (h : r'.bounds = r.bounds) : r'.keyMax = r.keyMax := congrArg Prod.fst h

theorem fits_congr {r r' : TowerSettings} (h : r'.bounds = r.bounds) (z : ZoneIdx) (x : Int) : r'.fits z x ↔ r.fits z x := by
  simp only [TowerSettings.bounds, Prod.mk.injEq] at h
  obtain ⟨-, limit, enabled, map⟩ := h
  rw [TowerSettings.fits, TowerSettings.fits, limit, TowerSettings.covers_congr enabled map]

theorem trimsWithinLimit_iff {s : State} : TrimsWithinLimit s ↔ ∀ u z, (s.tower u).fits z (s.trimOf u z).trim := by
  refine forall_congr' fun u => forall_congr' fun z => and_congr_right fun _ => imp_congr_left ?_
  rw [TowerSettings.covers_eq_false]
  refine ⟨?_, .inr⟩
  rintro (none | placeless)
  · exact .inl (by rw [tower_of_none none]; rfl)
  · exact placeless

theorem keyTarget_le (b : Nat) (x y : Int) (keyMax : Nat) : keyTarget b x y keyMax ≤ keyMax := by
  unfold keyTarget clampInt
  omega

theorem clampTrim_abs (limit : Nat) (x : Int) : |clampTrim limit x| ≤ limit := by
  rw [abs_le, clampTrim, clampInt]
  omega

theorem clampTrim_zero (limit : Nat) : clampTrim limit 0 = 0 := by
  rw [clampTrim, clampInt]
  omega

/-- A trim clamped to a limit fits a record with that limit and the places of before. -/
theorem TowerSettings.fits_clampTrim {r r' : TowerSettings} {z : ZoneIdx} {x : Int} (covers : r'.covers z = r.covers z)
    (h : r.fits z x) : r'.fits z (clampTrim r'.trimLimit x) :=
  ⟨clampTrim_abs _ x, fun placeless => by rw [h.2 (covers ▸ placeless), clampTrim_zero]⟩

/-! ### What keeps the bounds -/

/-- What a step keeps of the roles of the slots and of the bounds of Key Targets and trims. -/
structure BoundsKept (s t : State) : Prop where
  roles : JobRolesConsistent s → JobRolesConsistent t
  targets : JobRolesConsistent s → TargetsWithinMaximum s → TargetsWithinMaximum t
  trims : JobRolesConsistent s → TrimsWithinLimit s → TrimsWithinLimit t

namespace BoundsKept

variable {s t r : State}

theorem refl (s : State) : BoundsKept s s := ⟨id, fun _ => id, fun _ => id⟩

theorem trans (h : BoundsKept s t) (h' : BoundsKept t r) : BoundsKept s r :=
  ⟨fun a => h'.roles (h.roles a), fun a b => h'.targets (h.roles a) (h.targets a b),
    fun a b => h'.trims (h.roles a) (h.trims a b)⟩

/-- The last of several steps first. -/
theorem after (h' : BoundsKept t r) (h : BoundsKept s t) : BoundsKept s r := h.trans h'

theorem ite {c : Prop} [Decidable c] (h : BoundsKept s t) (h' : BoundsKept s r) : BoundsKept s (if c then t else r) := by
  split
  · exact h
  · exact h'

theorem foldl {ι : Type} {f : State → ι → State} (h : ∀ s i, BoundsKept s (f s i)) (l : List ι) (s : State) :
    BoundsKept s (l.foldl f s) := by
  induction l generalizing s with
  | nil => exact .refl s
  | cons i l ih => exact (h s i).trans (ih _)

/-- Where the settings that bound them stand, each Key Target is old or within its maximum, and each trim old or fitting. -/
theorem of_settings (roles : RolesKept s t) (settings : ∀ u, (t.tower u).bounds = (s.tower u).bounds)
    (targets : ∀ u z g, t.targetOf u z = some g → g.k ≤ (s.tower u).keyMax ∨ s.targetOf u z = some g)
    (trims : ∀ u z, (t.trimOf u z).trim = (s.trimOf u z).trim ∨ (s.tower u).fits z (t.trimOf u z).trim) : BoundsKept s t where
  roles h := h.congr roles
  targets _ h u z g defined := by
    rw [bounds_keyMax (settings u)]
    obtain within | old := targets u z g defined
    · exact within
    · exact h u z g old
  trims _ h := by
    rw [trimsWithinLimit_iff] at h ⊢
    intro u z
    rw [fits_congr (settings u)]
    obtain old | fits := trims u z
    · exact old ▸ h u z
    · exact fits

/-- As `of_settings`, where Key Targets and trims stand. -/
theorem of_records (roles : RolesKept s t) (settings : ∀ u, (t.tower u).bounds = (s.tower u).bounds)
    (targets : t.engine.targets = s.engine.targets) (trim : t.trim = s.trim) : BoundsKept s t :=
  .of_settings roles settings (fun u z g h => .inr (by rwa [State.targetOf, targets] at h))
    fun u z => .inl (by rw [State.trimOf, trim, ← State.trimOf])

/-- Job Slots, armed slot, Key Targets and trims stand. -/
theorem of_same (jobs : t.jobs = s.jobs) (armed : t.cycle.armed = s.cycle.armed) (targets : t.engine.targets = s.engine.targets)
    (trims : ∀ u z, (t.trimOf u z).trim = (s.trimOf u z).trim) : BoundsKept s t :=
  .of_settings (.of_same jobs armed) (fun u => by rw [tower_congr jobs])
    (fun u z g h => .inr (by rwa [State.targetOf, targets] at h)) fun u z => .inl (trims u z)

theorem of_frame {bs : List Block} (frame : OnlyChanges bs s t) (jobs : Block.jobs ∉ bs := by decide)
    (cycle : Block.cycle ∉ bs := by decide) (engine : Block.engine ∉ bs := by decide) (trim : Block.trim ∉ bs := by decide) :
    BoundsKept s t :=
  .of_same (frame.jobs jobs) (by rw [frame.cycle cycle]) (by rw [frame.engine engine])
    fun u z => by rw [trimOf_congr (frame.trim trim)]

theorem of_scanned (h : Scanned s t) : BoundsKept s t :=
  .of_same h.frame.jobs (by rw [h.frame.cycle]) (by rw [h.frame.engine]) fun u z => (h.trims u z).1

end BoundsKept

/-! ### The shared operations -/

theorem putPass_bounds (u : TowerIdx) (x : TowerPass) (s : State) : BoundsKept s (s.putPass u x) :=
  .of_same rfl rfl rfl fun _ _ => rfl

theorem passCause_bounds (u : TowerIdx) (s : State) : BoundsKept s (passCause u s) :=
  .of_same (passCause_frame u s).jobs (by rw [(passCause_frame u s).cycle]) (passCause_targets u s)
    fun v z => by rw [trimOf_congr (passCause_frame u s).trim]

theorem leaveHold_armed (u : TowerIdx) (s : State) : (leaveHold u s).cycle.armed = s.cycle.armed := by
  unfold leaveHold
  split
  · dsimp only
    split
    · rfl
    · rw [(raise_frame _ _ _ _).cycle]
      rfl
  · rfl

theorem leaveHold_bounds (u : TowerIdx) (s : State) : BoundsKept s (leaveHold u s) :=
  .of_same (leaveHold_frame u s).jobs (leaveHold_armed u s) (by rw [(leaveHold_frame u s).engine])
    fun v z => by rw [trimOf_congr (leaveHold_frame u s).trim]

theorem dispatchScan_bounds (s : State) : BoundsKept s (dispatchScan s) := .of_scanned (dispatchScan_scanned s)

theorem scanIfPending_bounds (before s : State) : BoundsKept s (scanIfPending before s) := .of_scanned (scanIfPending_scanned before s)

theorem evalRestricted_bounds (s : State) : BoundsKept s (evalRestricted s) := .of_frame (evalRestricted_frame s)

theorem rewriteTarget_targetOf (u : TowerIdx) (z : ZoneIdx) (g : Target) (k : Nat) (s : State) (v : TowerIdx) (x : ZoneIdx) :
    (rewriteTarget u z g k s).targetOf v x = if u = v ∧ z = x then some { g with k := k } else s.targetOf v x := by
  rw [rewriteTarget, handTarget_targetOf, putTarget_targetOf]

theorem rewriteTarget_bounds {u : TowerIdx} {k : Nat} {s : State} (within : k ≤ (s.tower u).keyMax) (z : ZoneIdx) (g : Target) :
    BoundsKept s (rewriteTarget u z g k s) := by
  have frame := rewriteTarget_handing u z g k s
  refine .of_settings (.of_frame frame.frame) (fun v => by rw [tower_congr frame.frame.jobs]) (fun v x g' defined => ?_)
    fun v x => .inl (by rw [trimOf_congr frame.frame.trim])
  rw [rewriteTarget_targetOf] at defined
  split at defined
  · next here => exact .inl (by rw [← here.1, ← Option.some.inj defined]; exact within)
  · exact .inr defined

theorem zoneUpdate_bounds (u : TowerIdx) (z : ZoneIdx) (s : State) : BoundsKept s (zoneUpdate u z s) := by
  unfold zoneUpdate
  split
  · exact .refl s
  · split
    · exact rewriteTarget_bounds (keyTarget_le ..) z _
    · exact .refl s

theorem zoneUpdates_bounds (u : TowerIdx) (zs : List ZoneIdx) (s : State) : BoundsKept s (zoneUpdates u zs s) :=
  .foldl (fun s z => zoneUpdate_bounds u z s) zs s

/-- Every Key Target of a tower clamped to a key maximum lies within it. -/
theorem clampTargets_le {u : TowerIdx} {keyMax : Nat} {s : State} {z : ZoneIdx} {g : Target}
    (h : (clampTargets u keyMax s).targetOf u z = some g) : g.k ≤ keyMax := by
  have same := (Locally.foldl_zones (clampTarget_locally u keyMax) allZones_nodup s).2 z (mem_allZones z)
  have defined : (clampTarget u keyMax z s).targetOf u z = some g := same.target.symm.trans h
  unfold clampTarget at defined
  split at defined
  · next none => rw [none] at defined; cases defined
  · next g' some =>
    split at defined
    · rw [rewriteTarget_targetOf, if_pos ⟨rfl, rfl⟩] at defined
      rw [← Option.some.inj defined]
    · next within =>
      obtain rfl := Option.some.inj (some.symm.trans defined)
      exact Nat.le_of_not_lt within

theorem clampTargets_other {u v : TowerIdx} (other : v ≠ u) (keyMax : Nat) (s : State) (z : ZoneIdx) :
    (clampTargets u keyMax s).targetOf v z = s.targetOf v z :=
  ((Locally.foldl_zones (clampTarget_locally u keyMax) allZones_nodup s).1 v z (.inl other)).target

/-! ### A record of the running job written, with the hand-ons that bring Key Targets and trims within it -/

theorem withRecord_look (s : State) (j : SlotIdx) (u : TowerIdx) (r : TowerSettings) (v : TowerIdx) :
    look (s.withRecord j u r) v = if u = v then r else s.record j v := look_put ..

/-- The settings in force after a record of the running job is written. -/
theorem SlotWritten.tower_running {s w : State} {j : SlotIdx} {u : TowerIdx} {r : TowerSettings}
    (written : SlotWritten s w j (s.withRecord j u r)) (running : s.runningSlot = some j) (v : TowerIdx) :
    w.tower v = if u = v then r else s.tower v := by
  rw [written.tower, if_pos running, withRecord_look, tower_of_runningSlot running]

/-- A record of the running job is written and what does not fit it is brought within it. -/
theorem BoundsKept.of_written {s w t : State} {j : SlotIdx} {u : TowerIdx} {r : TowerSettings}
    (written : SlotWritten s w j (s.withRecord j u r)) (running : s.isRunning j = true) (jobs : t.jobs = w.jobs)
    (armed : t.cycle.armed = s.cycle.armed)
    (own : ∀ z g, t.targetOf u z = some g → g.k ≤ r.keyMax ∨ s.targetOf u z = some g ∧ (s.record j u).keyMax ≤ r.keyMax)
    (others : ∀ v z g, v ≠ u → t.targetOf v z = some g → s.targetOf v z = some g)
    (fitting : ∀ z, (s.record j u).fits z (s.trimOf u z).trim → r.fits z (t.trimOf u z).trim)
    (apart : ∀ v z, v ≠ u → (t.trimOf v z).trim = (s.trimOf v z).trim) : BoundsKept s t := by
  have tower : JobRolesConsistent s → ∀ v, t.tower v = if u = v then r else s.tower v := fun roles v =>
    (tower_congr jobs v).trans (written.tower_running (roles.runningSlot_eq running) v)
  have old : JobRolesConsistent s → s.tower u = s.record j u := fun roles =>
    tower_of_runningSlot (roles.runningSlot_eq running) u
  refine ⟨fun roles => roles.congr ?_, fun roles within v z g defined => ?_, fun roles within => ?_⟩
  · exact ⟨fun i => by rw [jobs, written.roles i (.inl rfl)], fun i => by rw [jobs, written.roles i (.inr rfl)], armed⟩
  · rw [tower roles]
    split
    · next here =>
      subst here
      obtain new | ⟨was, lower⟩ := own z g defined
      · exact new
      · exact Nat.le_trans (old roles ▸ within u z g was) lower
    · next other => exact within v z g (others v z g (Ne.symm other) defined)
  · rw [trimsWithinLimit_iff] at within ⊢
    intro v z
    rw [tower roles]
    split
    · next here =>
      subst here
      exact fitting z (old roles ▸ within u z)
    · next other =>
      rw [apart v z (Ne.symm other)]
      exact within v z

/-- What the bounds are read from stands in a written record. -/
theorem BoundsKept.of_stored {s t : State} {j : SlotIdx} {u : TowerIdx} {r : TowerSettings}
    (written : SlotWritten s t j (s.withRecord j u r)) (same : r.bounds = (s.record j u).bounds) {bs : List Block}
    (frame : OnlyChanges bs s t) (cycle : Block.cycle ∉ bs := by decide) (engine : Block.engine ∉ bs := by decide)
    (trim : Block.trim ∉ bs := by decide) : BoundsKept s t :=
  .of_records (written.rolesKept (by rw [frame.cycle cycle])) (written.field _ same) (by rw [frame.engine engine]) (frame.trim trim)

/-- A slot that is not RUNNING is written. -/
theorem BoundsKept.of_stopped {s t : State} {j : SlotIdx} {towers : Vector TowerSettings 12}
    (written : SlotWritten s t j towers) (frame : OnlyChanges [.jobs] s t) (stopped : ¬ s.isRunning j = true) : BoundsKept s t :=
  .of_records (written.rolesKept (by rw [frame.cycle]))
    (fun v => by rw [written.tower, if_neg fun slot => stopped (isRunning_of_runningSlot slot)]) (by rw [frame.engine]) frame.trim

end Sys2Proof.Machine
end

section
/-! SUPPORT. The roles of the Job Slots and the bounds of Key Targets and trims under every command (R15, R59, R100, R120). -/

set_option Elab.async false

namespace Sys2Proof.Machine

/-! ### Configure Tower -/

theorem disableTower_targetOf (u : TowerIdx) (s : State) (v : TowerIdx) (z : ZoneIdx) :
    (disableTower u s).targetOf v z = if v = u then none else s.targetOf v z := by
  unfold disableTower
  dsimp only
  rw [targetOf_congr (leaveHold_frame _ _).engine, targetOf_congr (clearTowerTrim_frame _ _).engine, putPass_targetOf,
    targetOf_congr (withdrawTargets_frame _ _ _).engine, dropTargets_targetOf, targetOf_congr (clearWatches_frame _ _).engine]
  simp

theorem clearTowerTrim_trimOf (u : TowerIdx) (s : State) (v : TowerIdx) (z : ZoneIdx) : (clearTowerTrim u s).trimOf v z
    = if v = u then { (s.trimOf v z).resetAveraging with trim := 0 } else s.trimOf v z := zlook_ztab ..

/-- A disabled tower's trims are 0, its averaging is reset. -/
theorem disableTower_trimOf (u : TowerIdx) (s : State) (v : TowerIdx) (z : ZoneIdx) : (disableTower u s).trimOf v z
    = if v = u then { (s.trimOf v z).resetAveraging with trim := 0 } else s.trimOf v z := by
  unfold disableTower
  dsimp only
  rw [trimOf_congr (leaveHold_frame _ _).trim, clearTowerTrim_trimOf, trimOf_congr (putPass_frame _ _ _).trim,
    trimOf_congr (withdrawTargets_frame _ _ _).trim, trimOf_congr (dropTargets_frame _ _).trim,
    trimOf_congr (clearWatches_frame _ _).trim]

theorem disableTower_armed (u : TowerIdx) (s : State) : (disableTower u s).cycle.armed = s.cycle.armed := by
  unfold disableTower
  rw [leaveHold_armed, (clearTowerTrim_frame _ _).cycle, (putPass_frame _ _ _).cycle, (withdrawTargets_frame _ _ _).cycle]
  rfl

theorem configure_places {r : TowerSettings} {p : List Byte} (stays : ¬ (r.enabled = true ∧ (r.configure p).enabled = false))
    {z : ZoneIdx} (placeless : (r.configure p).covers z = false) : r.covers z = false := by
  rw [TowerSettings.covers_eq_false] at placeless ⊢
  obtain disabled | beyond := placeless
  · exact .inl (Bool.eq_false_iff.2 fun enabled => stays ⟨enabled, disabled⟩)
  · exact .inr beyond

/-- The record written and its first hand-ons: the clamp to a lowered key maximum, the clearing of a disabled tower. -/
def configured (u : TowerIdx) (old new : TowerSettings) (s : State) : State :=
  if old.enabled && !new.enabled then
    disableTower u (if new.keyMax < old.keyMax then clampTargets u new.keyMax s else s)
  else if new.keyMax < old.keyMax then clampTargets u new.keyMax s else s

theorem configured_bounds {s w : State} {j : SlotIdx} {u : TowerIdx} {p : List Byte}
    (written : SlotWritten s w j (s.withRecord j u ((s.record j u).configure p))) (frame : OnlyChanges [.jobs] s w)
    (running : s.isRunning j = true) : BoundsKept s (configured u (s.record j u) ((s.record j u).configure p) w) := by
  generalize clamping : (if ((s.record j u).configure p).keyMax < (s.record j u).keyMax
    then clampTargets u ((s.record j u).configure p).keyMax w else w) = c
  have handing : Handing w c := by
    rw [← clamping]
    split
    · exact clampTargets_handing u _ w
    · exact .refl w
  have own : ∀ z g, c.targetOf u z = some g → g.k ≤ ((s.record j u).configure p).keyMax
      ∨ s.targetOf u z = some g ∧ (s.record j u).keyMax ≤ ((s.record j u).configure p).keyMax := fun z g defined => by
    rw [← clamping] at defined
    split at defined
    · exact .inl (clampTargets_le defined)
    · next raised => exact .inr ⟨targetOf_congr frame.engine u z ▸ defined, Nat.le_of_not_lt raised⟩
  have others : ∀ v z g, v ≠ u → c.targetOf v z = some g → s.targetOf v z = some g := fun v z g other defined => by
    rw [← clamping] at defined
    split at defined
    · rwa [clampTargets_other other, targetOf_congr frame.engine] at defined
    · rwa [targetOf_congr frame.engine] at defined
  have trim : c.trim = s.trim := handing.frame.trim.trans frame.trim
  have armed : c.cycle.armed = s.cycle.armed := by rw [handing.frame.cycle, frame.cycle]
  unfold configured
  rw [clamping]
  split
  · refine .of_written written running ((disableTower_frame u c).jobs.trans handing.frame.jobs)
      ((disableTower_armed u c).trans armed) (fun z g defined => ?_) (fun v z g other defined => ?_) (fun z _ => ?_)
      fun v z other => ?_
    · rw [disableTower_targetOf, if_pos rfl] at defined
      cases defined
    · rw [disableTower_targetOf, if_neg other] at defined
      exact others v z g other defined
    · rw [disableTower_trimOf, if_pos rfl]
      exact TowerSettings.fits_zero _ z
    · rw [disableTower_trimOf, if_neg other, trimOf_congr trim]
  · next stays =>
    rw [Bool.and_eq_true, Bool.not_eq_true'] at stays
    refine .of_written written running handing.frame.jobs armed own others (fun z fits => ?_) fun v z _ => by rw [trimOf_congr trim]
    rw [trimOf_congr trim]
    exact ⟨fits.1, fun placeless => fits.2 (configure_places stays placeless)⟩

theorem configurePass_bounds (u : TowerIdx) (old new : TowerSettings) (s : State) :
    BoundsKept s (configurePass u old new s) := by
  unfold configurePass
  split
  · exact passCause_bounds u s
  · split
    · exact (zoneUpdates_bounds u _ _).after ((passCause_bounds u _).after (putPass_bounds u _ s))
    · exact passCause_bounds u s

theorem handOnConfigure_eq (u : TowerIdx) (old new : TowerSettings) (s : State) : handOnConfigure u old new s
    = dispatchScan (if new.enabled then configurePass u old new (if old.enabled != new.enabled
        then evalRestricted (configured u old new s) else configured u old new s)
      else if old.enabled != new.enabled then evalRestricted (configured u old new s) else configured u old new s) := rfl

theorem configureTower_bounds (p : List Byte) (s : State) : BoundsKept s (configureTower p s).state := by
  unfold configureTower
  split
  · exact .refl s
  · refine loadRequest_state (.refl s) fun j u t extra _ _ _ _ accept => ?_
    obtain ⟨rfl, -⟩ := Verdict.accept.inj accept
    have written := slotWritten_record j u ((s.record j u).configure p) s
    have frame := readiness_write_frame j u ((s.record j u).configure p) s
    split
    · next running =>
      rw [handOnConfigure_eq]
      have base := configured_bounds written frame running
      refine (dispatchScan_bounds _).after (BoundsKept.after (.ite (configurePass_bounds ..) (.refl _)) ?_)
      exact BoundsKept.after (.ite (evalRestricted_bounds _) (.refl _)) base
    · next stopped => exact .of_stopped written frame stopped

/-! ### Set Targets -/

theorem setTargets_bounds (p : List Byte) (s : State) : BoundsKept s (setTargets p s).state := by
  unfold setTargets
  split
  · exact .refl s
  · refine loadRequest_state (.refl s) fun j u t extra _ _ _ _ accept => ?_
    obtain ⟨rfl, -⟩ := Verdict.accept.inj accept
    have written := slotWritten_record j u ((s.record j u).retargeted p) s
    have frame := readiness_write_frame j u ((s.record j u).retargeted p) s
    split
    · next running =>
      refine (scanIfPending_bounds _ _).after ((zoneUpdates_bounds u _ _).after ?_)
      refine .of_written written running rfl (by rw [setTrim_cycle, frame.cycle])
        (fun z g defined => .inr ⟨targetOf_congr frame.engine u z ▸ defined, Nat.le_refl _⟩)
        (fun v z g _ defined => targetOf_congr frame.engine v z ▸ defined) (fun z fits => ?_) fun v z other => ?_
      · rw [State.trimOf, setTrim_trim, zlook_ztab, if_pos rfl, trimOf_congr frame.trim]
        exact TowerSettings.fits_clampTrim (r := s.record j u) (r' := (s.record j u).retargeted p) (TowerSettings.covers_congr rfl rfl z) fits
      · rw [State.trimOf, setTrim_trim, zlook_ztab, if_neg other, trimOf_congr frame.trim]
    · next stopped => exact .of_stopped written frame stopped

/-- A record written with the bounds it had. -/
theorem writeRecord_bounds {s : State} {j : SlotIdx} {u : TowerIdx} {r : TowerSettings} (same : r.bounds = (s.record j u).bounds) :
    BoundsKept s (readinessEvaluation j (writeRecord j u r s)) :=
  .of_stored (slotWritten_record j u r s) same (readiness_write_frame _ _ _ _)

/-! ### The other load requests, the label, the Curve Library -/

theorem loadZoneMap_bounds (p : List Byte) (s : State) : BoundsKept s (loadZoneMap p s).state := by
  unfold loadZoneMap
  split
  · exact .refl s
  · refine loadRequest_state (.refl s) fun j u t extra _ _ _ _ accept => ?_
    split at accept
    · cases accept
    · next stopped =>
      split at accept
      · cases accept
      · obtain ⟨rfl, -⟩ := Verdict.accept.inj accept
        exact .of_stopped (slotWritten_record j u _ s) (readiness_write_frame _ _ _ _) stopped

theorem setOffsets_bounds (p : List Byte) (s : State) : BoundsKept s (setOffsets p s).state := by
  unfold setOffsets
  dsimp only
  split
  · exact .refl s
  · split
    · exact .refl s
    · split
      · exact .refl s
      · refine loadRequest_state (.refl s) fun j u t extra _ _ _ _ accept => ?_
        obtain ⟨m, -, -, rfl⟩ := offsetsBody_accept accept
        refine BoundsKept.after (.ite ?_ (.refl _)) (writeRecord_bounds rfl)
        exact (scanIfPending_bounds _ _).after (zoneUpdates_bounds u _ _)

/-- What an accepted Strip Open leaves: the buffer restarted, or one bound and the strip OPEN. -/
theorem openBody_accept {p : List Byte} {s t : State} {j : SlotIdx} {u : TowerIdx} {extra : List Byte}
    (h : openBody p s j u = .accept t extra) :
    ∃ m, (s.record j u).zoneMap = some m ∧
      (let b := Buffer.fresh j u (u16 p 2) (.ofNum (u8 p 4)) m.zones
       ((s.record j u).strip = .opened ∧ extra = byte1 1 ++ byte1 t.buffersBound
          ∧ ((∃ i old, s.bufferOf j u = some (i, old) ∧ t = readinessEvaluation j (s.putBuffer i (some b)))
            ∨ s.bufferOf j u = none ∧ t = readinessEvaluation j s))
        ∨ (s.record j u).strip ≠ .opened ∧ extra = byte1 0 ++ byte1 t.buffersBound
          ∧ ∃ i, s.freeBuffer = some i ∧ t = readinessEvaluation j
              (writeRecord j u { s.record j u with strip := .opened } (s.putBuffer i (some b)))) := by
  unfold openBody at h
  dsimp only at h
  split at h
  · cases h
  · next m map =>
    refine ⟨m, map, ?_⟩
    split at h
    · next opened =>
      obtain ⟨rfl, rfl⟩ := Verdict.accept.inj h
      refine .inl ⟨opened, rfl, ?_⟩
      split
      · next ib bound => exact .inl ⟨ib.1, ib.2, bound, rfl⟩
      · next unbound => exact .inr ⟨unbound, rfl⟩
    · next closed =>
      split at h
      · cases h
      · next i free =>
        obtain ⟨rfl, rfl⟩ := Verdict.accept.inj h
        exact .inr ⟨closed, rfl, i, free, rfl⟩

/-- What an accepted Strip Segment leaves. -/
theorem segmentBody_accept {p : List Byte} {s t : State} {j : SlotIdx} {u : TowerIdx} {extra : List Byte}
    (h : segmentBody p s j u = .accept t extra) :
    (s.record j u).strip = .opened ∧ ∃ m i b, (s.record j u).zoneMap = some m ∧ s.bufferOf j u = some (i, b)
      ∧ extra = (takeColumns m b (u16 p 2) (u16s p 5 (u8 p 4))).segmentCounts
      ∧ t = readinessEvaluation j (s.putBuffer i (some (takeColumns m b (u16 p 2) (u16s p 5 (u8 p 4))))) := by
  unfold segmentBody at h
  dsimp only at h
  split at h
  · next opened =>
    split at h
    · next m ib map bound =>
      obtain ⟨state, fields⟩ := Verdict.accept.inj h
      exact ⟨opened, m, ib.1, ib.2, map, bound, fields.symm, state.symm⟩
    · cases h
  · cases h

/-- A Readiness Evaluation reads and writes no bound. -/
theorem readinessEvaluation_bounds (j : SlotIdx) (s : State) : BoundsKept s (readinessEvaluation j s) := by
  have written := slotWritten_evaluation j s
  have frame := readinessEvaluation_frame j s
  refine .of_records (written.rolesKept (by rw [frame.cycle])) (fun v => ?_) (by rw [frame.engine]) frame.trim
  rw [tower_of_records written.runningSlot fun i w _ => ?_]
  rw [written.record]
  split
  · next here => rw [here]; rfl
  · rfl

theorem putBuffer_bounds (i : Fin 4) (b : Option Buffer) (s : State) : BoundsKept s (s.putBuffer i b) :=
  .of_frame (setBuffers_frame s _)

theorem stripOpen_bounds (p : List Byte) (s : State) : BoundsKept s (stripOpen p s).state := by
  unfold stripOpen
  split
  · exact .refl s
  · refine loadRequest_state (.refl s) fun j u t extra _ _ _ _ accept => ?_
    obtain ⟨m, -, ⟨-, -, ⟨i, old, -, rfl⟩ | ⟨-, rfl⟩⟩ | ⟨-, -, i, -, rfl⟩⟩ := openBody_accept accept
    · exact (readinessEvaluation_bounds j _).after (putBuffer_bounds ..)
    · exact readinessEvaluation_bounds j s
    · have opened := writeRecord_bounds (s := s.putBuffer i (some (Buffer.fresh j u (u16 p 2) (.ofNum (u8 p 4)) m.zones))) (j := j)
        (u := u) (r := { s.record j u with strip := .opened }) rfl
      exact opened.after (putBuffer_bounds i _ s)

theorem stripSegment_bounds (p : List Byte) (s : State) : BoundsKept s (stripSegment p s).state := by
  unfold stripSegment
  dsimp only
  split
  · exact .refl s
  · split
    · exact .refl s
    · split
      · exact .refl s
      · refine loadRequest_state (.refl s) fun j u t extra _ _ _ _ accept => ?_
        obtain ⟨-, m, i, b, -, -, -, rfl⟩ := segmentBody_accept accept
        exact (readinessEvaluation_bounds j _).after (putBuffer_bounds ..)

theorem stripClose_bounds (p : List Byte) (s : State) : BoundsKept s (stripClose p s).state := by
  unfold stripClose
  split
  · exact .refl s
  · refine loadRequest_state (.refl s) fun j u t extra _ _ _ _ accept => ?_
    obtain ⟨-, m, i, b, -, -, -, rfl⟩ := closeBody_accept accept
    have closed := writeRecord_bounds (s := s.putBuffer i none) (j := j) (u := u)
      (r := { s.record j u with coverage := some (b.coverage m), strip := .closed }) rfl
    exact (BoundsKept.ite (passCause_bounds ..) (.refl _)).after (closed.after (putBuffer_bounds i none s))

theorem setJobLabel_bounds (p : List Byte) (s : State) : BoundsKept s (setJobLabel p s).state := by
  refine setJobLabel_state (.refl s) (fun j label => ?_) p
  refine (readinessEvaluation_bounds j _).after ?_
  have written := slotWritten_store j { (look s.jobs j).job with label := label } s
  have frame := storeJob_frame j { (look s.jobs j).job with label := label } s
  refine .of_records (written.rolesKept (by rw [frame.cycle])) (fun v => ?_) (by rw [frame.engine]) frame.trim
  rw [tower_of_records written.runningSlot fun i w _ => ?_]
  rw [written.record]
  split
  · next here => rw [here]; rfl
  · rfl

theorem changeLibrary_bounds (c : CurveIdx) (x : Option Curve) (s : State) : BoundsKept s (changeLibrary c x s) := by
  have frame := changeLibrary_frame c x s
  have roles := changeLibrary_rolesKept c x s
  exact .of_records roles (fun v => by rw [tower_of_records roles.runningSlot fun i w _ => changeLibrary_record c x s i w])
    (by rw [frame.engine]) frame.trim

/-! ### Emptied slots and changeovers -/

/-- A slot that was being prepared emptied. -/
theorem emptySlot_bounds {j : SlotIdx} {s : State} {role : Role} {job : Job} (held : look s.jobs j = .held role job)
    (prepared : role = .loading ∨ role = .ready) : BoundsKept s (emptySlot j s) := by
  have roles := emptySlot_rolesKept held prepared
  refine .of_records roles (fun v => ?_) rfl rfl
  rw [tower_of_records roles.runningSlot fun i w slot => ?_]
  rw [State.record, emptySlot_job, if_neg ?_]
  · rfl
  · rintro rfl
    have running := isRunning_of_runningSlot slot
    rw [State.isRunning, held] at running
    obtain rfl | rfl := prepared <;> cases running

theorem clearJob_bounds (p : List Byte) (s : State) : BoundsKept s (clearJob p s).state :=
  clearJob_state (.refl s) (fun _ _ _ held prepared => emptySlot_bounds held prepared) p

end Sys2Proof.Machine
end

section
/-! SUPPORT. The taking of a changeover and every other command keep the roles of the slots and the bounds of Key Targets and trims
(R15, R59, R66, R100, R117, R128). -/

set_option Elab.async false

namespace Sys2Proof.Machine

/-! ### Key Targets and trims after a changeover (R66, R117) -/

/-- What each step of a fold keeps, the fold keeps. -/
theorem foldl_keeps {ι β : Type} {f : State → ι → State} (p : State → β) (h : ∀ s i, p (f s i) = p s) (l : List ι) (s : State) :
    p (l.foldl f s) = p s := by
  induction l generalizing s with
  | nil => rfl
  | cons i l ih => rw [List.foldl_cons, ih, h]

theorem beginPasses_targets (s : State) : (beginPasses s).engine.targets = s.engine.targets := by
  unfold beginPasses
  generalize allTowers = l
  refine foldl_keeps (fun s => s.engine.targets) (fun s u => ?_) l s
  split
  · exact passCause_targets u s
  · rfl

theorem targetOf_of_targets {s t : State} (h : t.engine.targets = s.engine.targets) (u : TowerIdx) (z : ZoneIdx) :
    t.targetOf u z = s.targetOf u z := congrArg (zlook · u z) h

theorem afterExchange_targetOf (s : State) (carry : Bool) (u : TowerIdx) (z : ZoneIdx) :
    (s.afterExchange carry).targetOf u z = (changeoverTargets s).targetOf u z := by
  have after : ∀ t, (dispatchScan (beginPasses (changeoverTrim carry t))).targetOf u z = t.targetOf u z := fun t =>
    (targetOf_congr (dispatchScan_frame _).engine u z).trans (targetOf_of_targets (beginPasses_targets _) u z)
  have before : ∀ t, (evalRestricted (clearWatches (fun _ => true) t)).targetOf u z = t.targetOf u z := fun t =>
    targetOf_congr (evalRestricted_frame _).engine u z
  exact (after _).trans (before _)

theorem changeoverTower_le {u : TowerIdx} {s : State} {z : ZoneIdx} {g : Target}
    (h : (changeoverTower u s).targetOf u z = some g) : g.k ≤ (s.tower u).keyMax := clampTargets_le h

/-- After a changeover every Key Target lies within its key maximum in the new job. -/
theorem changeoverTargets_le {s : State} {u : TowerIdx} {z : ZoneIdx} {g : Target}
    (h : (changeoverTargets s).targetOf u z = some g) : g.k ≤ (s.tower u).keyMax := by
  rw [changeoverTargets_eq, (changeoverTowers_sameAt _ u z).target] at h
  have within := changeoverTower_le h
  rwa [tower_congr (dropTargets_frame _ _).jobs] at within

theorem changeoverTrim_trimOf (carry : Bool) (s : State) (u : TowerIdx) (z : ZoneIdx) : (changeoverTrim carry s).trimOf u z
    = { (s.trimOf u z).resetAveraging with trim := carriedTrim carry (s.tower u) z (s.trimOf u z).trim } := by
  rw [changeoverTrim, State.trimOf, setTrim_trim, zlook_ztab]

theorem afterExchange_trim (s : State) (carry : Bool) (u : TowerIdx) (z : ZoneIdx) : ((s.afterExchange carry).trimOf u z).trim
    = carriedTrim carry (s.tower u) z (s.trimOf u z).trim := by
  have before : OnlyChanges [.engine, .motion, .notice] s (evalRestricted (clearWatches (fun _ => true) (changeoverTargets s))) :=
    .after (evalRestricted_frame _) (.after (clearWatches_frame _ _) (.after (changeoverTargets_frame _) (.refl _ s)))
  unfold State.afterExchange
  rw [((dispatchScan_scanned _).trims u z).1, trimOf_congr (beginPasses_frame _).trim, changeoverTrim_trimOf,
    trimOf_congr before.trim, tower_congr before.jobs]

theorem carriedTrim_fits (carry : Bool) (r : TowerSettings) (z : ZoneIdx) (x : Int) : r.fits z (carriedTrim carry r z x) := by
  unfold carriedTrim
  split
  · next keeps =>
    refine ⟨clampTrim_abs _ x, fun placeless => ?_⟩
    rw [placeless, Bool.and_false] at keeps
    cases keeps
  · exact r.fits_zero z

/-- Where a changeover to a slot is armed, that slot is ARMED. -/
theorem JobRolesConsistent.armed_slot {s : State} (h : JobRolesConsistent s) {a : ArmedChangeover} (armed : s.cycle.armed = some a) :
    ∃ job, look s.jobs a.slot = .held .armed job := by
  have named := (h.2 a.slot).2 (by rw [armed]; rfl)
  cases held : look s.jobs a.slot with
  | empty => rw [held] at named; cases named
  | held role job =>
    rw [held] at named
    cases role <;> first | exact ⟨job, rfl⟩ | cases named

theorem takeChangeover_armed (a : ArmedChangeover) (s : State) : (takeChangeover a s).cycle.armed = none := by
  rw [takeChangeover_eq, (afterExchange_frame _ _).cycle, State.exchanged, (exchangeJobs_frame _ _).cycle]
  rfl

theorem takeChangeover_roles {s : State} {a : ArmedChangeover} (h : JobRolesConsistent s) (armed : s.cycle.armed = some a) :
    JobRolesConsistent (takeChangeover a s) := by
  obtain ⟨job, held⟩ := h.armed_slot armed
  have jobs : ∀ i, look (takeChangeover a s).jobs i
      = if i = a.slot then .held .running job else if s.isRunning i then .empty else look s.jobs i := fun i => by
    rw [takeChangeover_jobs]
    exact exchanged_job held i
  have apart : ∀ i, i ≠ a.slot → (look (takeChangeover a s).jobs i).inRole .running = false
      ∧ (look (takeChangeover a s).jobs i).inRole .armed = false := fun i other => by
    rw [jobs, if_neg other]
    split
    · exact ⟨rfl, rfl⟩
    · next stopped =>
      refine ⟨Bool.eq_false_iff.2 stopped, Bool.eq_false_iff.2 fun named => other ?_⟩
      have slot := (h.2 i).1 named
      rw [armed] at slot
      exact (Option.some.inj slot).symm
  refine ⟨fun both => ?_, fun i => ?_⟩
  · obtain zero | one := slot_zero_or_one a.slot
    · have stopped := (apart 1 (by rw [zero]; decide)).1
      rw [both.2] at stopped
      cases stopped
    · have stopped := (apart 0 (by rw [one]; decide)).1
      rw [both.1] at stopped
      cases stopped
  · rw [takeChangeover_armed]
    refine ⟨fun named => ?_, fun absurd => by cases absurd⟩
    by_cases here : i = a.slot
    · rw [jobs, if_pos here] at named
      cases named
    · rw [(apart i here).2] at named
      cases named

theorem takeChangeover_bounds {s : State} {a : ArmedChangeover} (armed : s.cycle.armed = some a) :
    BoundsKept s (takeChangeover a s) := by
  have tower : ∀ u, (takeChangeover a s).tower u = (s.exchanged a.slot).tower u := tower_congr (takeChangeover_jobs a s)
  refine ⟨fun roles => takeChangeover_roles roles armed, fun _ _ u z g defined => ?_, fun _ _ => ?_⟩
  · rw [tower]
    rw [takeChangeover_eq, afterExchange_targetOf] at defined
    exact changeoverTargets_le defined
  · rw [trimsWithinLimit_iff]
    intro u z
    rw [tower, takeChangeover_eq, afterExchange_trim]
    exact carriedTrim_fits ..

theorem takeArmed_bounds (s : State) : BoundsKept s (takeArmed s) := by
  unfold takeArmed
  split
  · next a armed => exact takeChangeover_bounds armed
  · exact .refl s

theorem pressPhase_bounds (p : List Byte) (s : State) : BoundsKept s (pressPhase p s).state := by
  unfold pressPhase
  split
  · exact .refl s
  · split
    · exact .refl s
    · exact BoundsKept.after (.ite (.refl _) (dispatchScan_bounds _))
        (BoundsKept.after (.ite (takeArmed_bounds _) (.refl _)) (.of_same rfl rfl rfl fun _ _ => rfl))

/-! ### Arming and cancelling (R125, R126) -/

/-- A slot that is not RUNNING has another content that is not, and the armed slot is named anew. -/
theorem BoundsKept.of_rearmed {s t : State} {j : SlotIdx} {x : JobSlot} (stopped : JobRolesConsistent s → s.isRunning j = false)
    (jobs : ∀ i, look t.jobs i = if j = i then x else look s.jobs i) (idle : x.inRole .running = false)
    (armed : JobRolesConsistent s → ∀ i, (look t.jobs i).inRole .armed = true ↔ t.cycle.armed.map ArmedChangeover.slot = some i)
    (targets : t.engine.targets = s.engine.targets) (trim : t.trim = s.trim) : BoundsKept s t := by
  have running : JobRolesConsistent s → ∀ i, (look t.jobs i).inRole .running = (look s.jobs i).inRole .running := fun roles i => by
    rw [jobs]
    split
    · next here => exact here ▸ idle.trans (stopped roles).symm
    · rfl
  have tower : JobRolesConsistent s → ∀ u, t.tower u = s.tower u := fun roles =>
    tower_of_records (by simp only [State.runningSlot, running roles]) fun i u slot => by
      rw [State.record, jobs, if_neg, ← State.record]
      rintro rfl
      have off := stopped roles
      rw [isRunning_of_runningSlot slot] at off
      cases off
  refine ⟨fun roles => ⟨fun both => roles.1 ?_, armed roles⟩, fun roles within u z g defined => ?_, fun roles within => ?_⟩
  · rwa [running roles, running roles] at both
  · rw [tower roles]
    exact within u z g (targetOf_of_targets targets u z ▸ defined)
  · rw [trimsWithinLimit_iff] at within ⊢
    intro u z
    rw [tower roles, trimOf_congr trim]
    exact within u z

/-- A slot that was READY becomes ARMED. -/
theorem arming_bounds {s : State} {j : SlotIdx} (ready : (look s.jobs j).inRole .ready = true) (none : s.cycle.armed = none)
    (carry : Bool) : BoundsKept s ((s.putJob j (.held .armed (look s.jobs j).job)).setCycle { s.cycle with armed := some ⟨j, carry⟩ }) := by
  refine .of_rearmed (j := j) (fun _ => ?_) (fun i => putJob_look ..) rfl (fun roles i => ?_) rfl rfl
  · rw [State.isRunning]
    cases held : look s.jobs j with
    | empty => rfl
    | held role job =>
      rw [held] at ready
      cases role <;> first | rfl | cases ready
  · rw [setCycle_jobs, putJob_look]
    split
    · next here => exact ⟨fun _ => by rw [here]; rfl, fun _ => rfl⟩
    · next other =>
      refine ⟨fun named => ?_, fun named => absurd (Option.some.inj named) other⟩
      have slot := (roles.2 i).1 named
      rw [none] at slot
      cases slot

theorem changeover_bounds (p : List Byte) (s : State) : BoundsKept s (changeover p s).state := by
  unfold changeover
  dsimp only
  split
  · exact .refl s
  · split
    · exact .refl s
    · split
      · split
        · exact .refl s
        · split
          · exact .refl s
          · next j _ _ _ ready =>
            split
            · exact .refl s
            · next unarmed =>
              have ready : (look s.jobs j).inRole .ready = true := by simpa using ready
              have armed := arming_bounds ready (by simpa using unarmed) (u8 p 1 == 1)
              split
              · dsimp only
                exact (takeArmed_bounds _).after armed
              · exact armed
      · exact .refl s

/-- The armed slot becomes READY again. -/
theorem disarming_bounds {s : State} {a : ArmedChangeover} (armed : s.cycle.armed = some a) :
    BoundsKept s ((s.putJob a.slot (.held .ready (look s.jobs a.slot).job)).setCycle { s.cycle with armed := none }) := by
  refine .of_rearmed (j := a.slot) (fun roles => ?_) (fun i => putJob_look ..) rfl (fun roles i => ?_) rfl rfl
  · obtain ⟨job, held⟩ := roles.armed_slot armed
    rw [State.isRunning, held]
    rfl
  · rw [setCycle_jobs, putJob_look]
    refine ⟨fun named => ?_, fun absurd => by cases absurd⟩
    split at named
    · cases named
    · next other =>
      have slot := (roles.2 i).1 named
      rw [armed] at slot
      exact absurd (Option.some.inj slot) other

theorem cancelChangeover_bounds (p : List Byte) (s : State) : BoundsKept s (cancelChangeover p s).state := by
  unfold cancelChangeover
  split
  · exact .refl s
  · split
    · exact .refl s
    · next a armed => exact disarming_bounds armed

/-! ### Zone Computations -/

theorem completeSweep_bounds (u : TowerIdx) (s : State) : BoundsKept s (completeSweep u s) := by
  unfold completeSweep
  split
  · exact putPass_bounds ..
  · dsimp only
    have value := fun x => BoundsKept.of_frame (valueOrFree_frame x s)
    split
    · exact value _
    · exact (BoundsKept.of_frame (handSweep_frame _ _ _)).after ((putPass_bounds ..).after (value _))

theorem rerunOrEnd_bounds (u : TowerIdx) (s : State) : BoundsKept s (rerunOrEnd u s) :=
  .ite (putPass_bounds ..) (putPass_bounds ..)

theorem completePass_bounds (u : TowerIdx) (s : State) : BoundsKept s (completePass u s) :=
  (rerunOrEnd_bounds u _).after ((leaveHold_bounds u _).after
    ((BoundsKept.of_frame (setWatch_frame u _)).after (completeSweep_bounds u s)))

theorem computeAt_bounds (u : TowerIdx) (z : ZoneIdx) (s : State) : BoundsKept s (computeAt u z s) := by
  rw [computeAt_eq]
  refine (putPass_bounds u _ (computed u z s)).after ((scanIfPending_bounds s _).after ?_)
  refine BoundsKept.after (rewriteTarget_bounds ?_ z _) (.of_frame (computeZone_frame u z s))
  rw [tower_congr (computeZone_frame u z s).jobs]
  exact keyTarget_le ..

theorem zoneComputation_bounds (u : TowerIdx) (s : State) : BoundsKept s (zoneComputation u s) := by
  unfold zoneComputation
  split
  · split
    · exact .refl s
    · next z _ =>
      have computed := computeAt_bounds u z s
      dsimp only
      split
      · exact (completePass_bounds u _).after computed
      · exact computed
  · exact .refl s

/-! ### Readings and trims -/

/-- A zone whose readings are counted has a place in the running job. -/
theorem covers_of_counted {u : TowerIdx} {z : ZoneIdx} {arrival : Nat} {s : State} (h : ¬ discards u z arrival s = true) :
    (s.tower u).covers z = true := by
  refine Bool.eq_true_of_not_eq_false fun placeless => h ?_
  unfold discards
  obtain disabled | beyond := TowerSettings.covers_eq_false.1 placeless
  · simp [disabled]
  · cases map : (s.tower u).zoneMap with
    | none => simp
    | some m => simp [beyond m map]

/-- A trim zone written whose trim fits. -/
theorem putTrim_bounds {u : TowerIdx} {z : ZoneIdx} {x : TrimZone} {s : State}
    (fits : x.trim = (s.trimOf u z).trim ∨ (s.tower u).fits z x.trim) : BoundsKept s (s.putTrim u z x) := by
  refine .of_settings (.of_same rfl rfl) (fun _ => rfl) (fun _ _ _ defined => .inr defined) fun v y => ?_
  rw [putTrim_trimOf]
  split
  · next here =>
    obtain ⟨rfl, rfl⟩ := here
    exact fits
  · exact .inl rfl

theorem trimUpdate_bounds {u : TowerIdx} {z : ZoneIdx} {s : State} (covers : (s.tower u).covers z = true) (d : Int) (step : Nat) :
    BoundsKept s (trimUpdate u z d step s) := by
  unfold trimUpdate
  dsimp only
  refine BoundsKept.after (.ite (zoneUpdate_bounds ..) (.refl _)) ?_
  have saturate : ∀ t : State, BoundsKept t (raise .trimLimit (some u) (.zone u z)
      (t.setTrim { t.trim with saturated := put t.trim.saturated u true })) := fun t =>
    (BoundsKept.of_frame (raise_frame _ _ _ _)).after (.of_same rfl rfl rfl fun _ _ => rfl)
  refine BoundsKept.after (.ite (saturate _) (.refl _)) ?_
  refine putTrim_bounds (.inr ⟨clampTrim_abs _ _, fun placeless => ?_⟩)
  rw [covers] at placeless
  cases placeless

theorem windowTest_bounds {u : TowerIdx} {z : ZoneIdx} {s : State} (covers : (s.tower u).covers z = true) (avg : Nat) :
    BoundsKept s (windowTest u z avg s).1 := by
  unfold windowTest
  dsimp only
  split
  · exact .refl s
  · split
    · split
      · exact .of_frame (raise_frame _ _ _ _)
      · exact .refl s
      · exact trimUpdate_bounds covers ..
    · exact .of_frame (raise_frame _ _ _ _)

theorem countReading_bounds {u : TowerIdx} {z : ZoneIdx} {s : State} (covers : (s.tower u).covers z = true) (v : Nat) :
    BoundsKept s (countReading u z v s).1 := by
  unfold countReading
  dsimp only
  split
  · refine BoundsKept.trans ?_ (windowTest_bounds ?_ _)
    · exact putTrim_bounds (.inl rfl)
    · exact covers
  · exact putTrim_bounds (.inl rfl)

theorem averagingReset_bounds (u : TowerIdx) (z : ZoneIdx) (s : State) : BoundsKept s (averagingReset u z s) := by
  unfold averagingReset
  exact putTrim_bounds (.inl rfl)

theorem takeReading_bounds (u : TowerIdx) (z : ZoneIdx) (arrival v : Nat) (s : State) :
    BoundsKept s (takeReading u z arrival v s).1 := by
  unfold takeReading
  split
  · exact .refl s
  · split
    · exact averagingReset_bounds u z s
    · next counted =>
      dsimp only
      exact (scanIfPending_bounds s _).after (countReading_bounds (covers_of_counted counted) _)

theorem takeReadings_bounds (u : TowerIdx) (arrival n : Nat) (vals : List Nat) (s : State) :
    BoundsKept s (takeReadings u arrival n vals s).1 := by
  induction vals generalizing n s with
  | nil => exact .refl s
  | cons v rest ih =>
    rw [takeReadings]
    dsimp only
    refine (ih _ _).after ?_
    split
    · exact takeReading_bounds ..
    · exact .refl s

theorem singleRule_bounds (u : TowerIdx) (stepped : Bool) (s : State) : BoundsKept s (singleRule u stepped s) := by
  unfold singleRule
  split
  · exact .of_same rfl rfl rfl fun _ _ => rfl
  · exact .refl s

theorem takeDensity_bounds (p : List Byte) (arrival : Nat) (s : State) : BoundsKept s (takeDensity p arrival s) := by
  unfold takeDensity
  split
  · split
    · exact .refl s
    · exact (singleRule_bounds ..).after (takeReadings_bounds ..)
  · exact .refl s

theorem densityFrameTaken_bounds (s : State) : BoundsKept s (densityFrameTaken s) := by
  unfold densityFrameTaken
  split
  · exact .refl s
  · exact (takeDensity_bounds ..).after (.of_frame (setLink_frame s _))

theorem clearTrim_bounds (p : List Byte) (s : State) : BoundsKept s (clearTrim p s).state := by
  unfold clearTrim
  split
  · exact .refl s
  · split
    · exact .refl s
    · refine (scanIfPending_bounds s _).after (BoundsKept.after (.foldl (fun s (q : TowerIdx × ZoneIdx) => zoneUpdate_bounds q.1 q.2 s) _ _) ?_)
      refine .of_settings (.of_same rfl rfl) (fun _ => rfl) (fun _ _ _ defined => .inr defined) fun v y => ?_
      rw [State.trimOf, setTrim_trim, zlook_ztab]
      split
      · exact .inr (TowerSettings.fits_zero _ y)
      · exact .inl rfl

theorem armTrim_bounds (p : List Byte) (s : State) : BoundsKept s (armTrim p s).state := by
  unfold armTrim
  split
  · exact .refl s
  · split
    · exact .refl s
    · split
      · exact .of_same rfl rfl rfl fun _ _ => rfl
      · exact .refl s

theorem loadTrimBands_bounds (p : List Byte) (s : State) : BoundsKept s (loadTrimBands p s).state := by
  unfold loadTrimBands
  split
  · exact .refl s
  · split
    · exact .of_same rfl rfl rfl fun _ _ => rfl
    · exact .refl s

/-! ### Motion -/

theorem setMotionLimits_bounds (p : List Byte) (s : State) : BoundsKept s (setMotionLimits p s).state := by
  unfold setMotionLimits
  split
  · exact .refl s
  · split
    · dsimp only
      refine (dispatchScan_bounds _).after ((evalRestricted_bounds _).after ?_)
      exact .of_frame (setMotion_frame s _)
    · exact .refl s

theorem clearKeyFault_bounds (p : List Byte) (s : State) : BoundsKept s (clearKeyFault p s).state := by
  unfold clearKeyFault
  split
  · exact .refl s
  · split
    · exact .refl s
    · next u _ =>
      split
      · exact .refl s
      · exact .refl s
      · exact (scanIfPending_bounds s _).after (.foldl (fun s z => .of_frame (clearFault_frame u z s)) _ s)

theorem failMove_bounds (u : TowerIdx) (z : ZoneIdx) (s : State) : BoundsKept s (failMove u z s) :=
  (dispatchScan_bounds _).after (.of_frame (failedMove_frame u z s))

theorem keyReport_bounds (u : TowerIdx) (z : ZoneIdx) (tag : BitVec 8) (position : Nat) (stalled : Bool) (s : State) :
    BoundsKept s (keyReport u z tag position stalled s) := by
  unfold keyReport
  dsimp only
  have recorded := fun x => BoundsKept.of_frame (putZone_frame s u z x)
  split
  · split
    · exact (failMove_bounds u z _).after (recorded _)
    · rw [arrived_eq]
      exact (dispatchScan_bounds _).after ((BoundsKept.of_frame (setMotionState_frame _ _ _ _)).after
        ((BoundsKept.of_frame (arrivedMove_frame u z _)).after (recorded _)))
  · exact recorded _

theorem expireMove_bounds (u : TowerIdx) (z : ZoneIdx) (s : State) : BoundsKept s (expireMove u z s) := by
  cases resting : (s.zone u z).state.inFlight with
  | false =>
    rw [expireMove_resting s u z resting]
    exact .refl s
  | true =>
    obtain moving | retry := MotionState.inFlight_iff.1 resting
    · rw [expireMove_moving s u z moving]
      refine (BoundsKept.of_frame (setMotion_frame _ _)).after ?_
      exact (BoundsKept.of_frame (setMotionState_frame _ _ _ _)).after (.of_frame (putZone_frame s u z _))
    · rw [expireMove_retry s u z retry]
      exact failMove_bounds u z s

theorem moveTimeout_bounds (u : TowerIdx) (z : ZoneIdx) (s : State) : BoundsKept s (moveTimeout u z s) := by
  cases timer : (s.zone u z).timer with
  | none =>
    simp only [moveTimeout, timer]
    exact .refl s
  | some expiry =>
    rw [moveTimeout_running timer]
    exact (expireMove_bounds u z _).after (.of_same rfl rfl rfl fun _ _ => rfl)

theorem tick_bounds (s : State) : BoundsKept s (tick s) := by
  refine BoundsKept.trans (.of_frame (setClock_frame s _)) (.foldl (fun s p => ?_) allPairs _)
  split
  · exact moveTimeout_bounds ..
  · exact .refl s

end Sys2Proof.Machine
end

section
/-! PROOF. The Job Slots' roles, Key Targets and trims (sections 7.1, 4.3, 6.1): the bounds under every step. -/

set_option Elab.async false

namespace Sys2Proof.Machine

/-- A state whose slots, armed slot, Key Targets and trims are those of power-on reset has every bound. -/
theorem BoundsKept.of_reset {s t : State} (jobs : t.jobs = State.reset.jobs) (armed : t.cycle.armed = none)
    (targets : ∀ u z, t.targetOf u z = none) (trims : ∀ u z, (t.trimOf u z).trim = 0) : BoundsKept s t where
  roles _ := jobRolesConsistent_reset.congr (.of_same jobs armed)
  targets _ _ u z g defined := by
    rw [targets] at defined
    cases defined
  trims _ _ := by
    rw [trimsWithinLimit_iff]
    intro u z
    rw [trims]
    exact TowerSettings.fits_zero _ z

theorem bridgeReset_bounds (p : List Byte) (s : State) : BoundsKept s (bridgeReset p s).state := by
  unfold bridgeReset
  split
  · exact .refl s
  · exact BoundsKept.of_reset (t := s.bridgeReset) rfl rfl reset_targetOf fun u z => by
      rw [show s.bridgeReset.trimOf u z = .reset from reset_trimOf u z]
      rfl

theorem handler_bounds (k : RequestKind) (p : List Byte) (s : State) : BoundsKept s (k.handler p s).state := by
  cases k
  case loadCurve => exact loadCurve_state (.refl s) (fun c x => changeLibrary_bounds c x s) p
  case eraseCurve => exact eraseCurve_state (.refl s) (fun c x => changeLibrary_bounds c x s) p
  case readCurve => exact .refl s
  case setJobLabel => exact setJobLabel_bounds p s
  case configureTower => exact configureTower_bounds p s
  case setTargets => exact setTargets_bounds p s
  case loadZoneMap => exact loadZoneMap_bounds p s
  case setOffsets => exact setOffsets_bounds p s
  case clearJob => exact clearJob_bounds p s
  case readSettings => exact .refl s
  case stripOpen => exact stripOpen_bounds p s
  case stripSegment => exact stripSegment_bounds p s
  case stripClose => exact stripClose_bounds p s
  case setMotionLimits => exact setMotionLimits_bounds p s
  case clearKeyFault => exact clearKeyFault_bounds p s
  case armTrim => exact armTrim_bounds p s
  case clearTrim => exact clearTrim_bounds p s
  case loadTrimBands => exact loadTrimBands_bounds p s
  case pressPhase => exact pressPhase_bounds p s
  case changeover => exact changeover_bounds p s
  case cancelChangeover => exact cancelChangeover_bounds p s
  case setNoticeControl => exact .of_frame (setNoticeControl_frame p s)
  case clearPending => exact .of_frame (clearPending_frame p s)
  case readZone => exact .refl s
  case readTower => exact .refl s
  case readStatus => exact .refl s
  case bridgeReset => exact bridgeReset_bounds p s

theorem takeRequest_bounds (k : RequestKind) (s : State) : BoundsKept s (takeRequest k k.handler s) := by
  obtain idle | ⟨f, rest, -, taken⟩ := takeRequest_cases k k.handler s
  · rw [idle]
    exact .refl s
  · rw [taken]
    exact (BoundsKept.of_frame (answer_frame _ _ _ _)).after ((handler_bounds k _ _).after (.of_frame (taken_frame s rest)))

theorem sheetMark_bounds (s : State) : BoundsKept s (sheetMark s) := by
  unfold sheetMark
  split
  · exact .refl s
  · exact (takeArmed_bounds _).after (.of_same rfl rfl rfl fun _ _ => rfl)

theorem routeD_bounds (f : Frame) (s : State) : BoundsKept s (routeD f s) := by
  unfold routeD
  split
  · unfold takeKeyReport
    split
    · split
      · exact .refl s
      · exact .ite (keyReport_bounds ..) (.refl s)
    · exact .refl s
  · exact .ite (.refl s) (.of_frame (placeUp_frame f s))

theorem receive_bounds {p : Port} {route : Frame → State → State} (h : ∀ f s, BoundsKept s (route f s)) (bytes : List Byte)
    (s : State) : BoundsKept s (receive p route bytes s) := by
  unfold receive
  refine .ite (.refl s) ?_
  split
  · exact .of_frame (raise_frame _ _ _ _)
  · exact h _ s

/-- The commands that may change the Job Slots, the Cycle Unit, the Zone Engine or the Trim Unit. -/
theorem bounds_commands {c : Instr} (h : ¬ (Block.jobs ∉ c.changes ∧ Block.cycle ∉ c.changes ∧ Block.engine ∉ c.changes
    ∧ Block.trim ∉ c.changes)) :
    (∃ k, (c, k) ∈ requestCommands) ∨ (∃ u, c = .zoneComputation u) ∨ (∃ u z, c = .moveTimeout u z) ∨ c = .densityFrameTaken
      ∨ c = .sheetMark ∨ (∃ bytes, c = .portDFrameReceived bytes) ∨ c = .powerOnReset := by
  cases c <;> simp [Instr.changes, requestCommands] at h ⊢

theorem exec_bounds {c : Instr} {s t : State} (h : exec c s = .next t) : BoundsKept s t := by
  by_cases still : Block.jobs ∉ c.changes ∧ Block.cycle ∉ c.changes ∧ Block.engine ∉ c.changes ∧ Block.trim ∉ c.changes
  · obtain ⟨jobs, cycle, engine, trim⟩ := still
    exact .of_frame (exec_frame h) jobs cycle engine trim
  obtain ⟨k, request⟩ | ⟨u, rfl⟩ | ⟨u, z, rfl⟩ | rfl | rfl | ⟨bytes, rfl⟩ | rfl := bounds_commands still
  · rw [exec_request request] at h
    exact Host.Outcome.next.inj h ▸ takeRequest_bounds k s
  all_goals rw [← Host.Outcome.next.inj h]
  · exact zoneComputation_bounds u s
  · exact moveTimeout_bounds u z s
  · exact densityFrameTaken_bounds s
  · exact sheetMark_bounds s
  · exact receive_bounds routeD_bounds bytes s
  · exact .of_reset rfl rfl reset_targetOf fun u z => by
      rw [show (powerOnReset s).trimOf u z = .reset from reset_trimOf u z]
      rfl

theorem step_bounds {s t : State} (h : step s = .next t) : BoundsKept s t := by
  obtain ticked | ⟨c, rest, -, ran⟩ := step_cases h
  · exact ticked ▸ tick_bounds s
  · have queued : BoundsKept s (s.setPending rest) := .of_same rfl rfl rfl fun _ _ => rfl
    exact (exec_bounds ran).after queued

/-- Settles O58: one millisecond and every command are made of operations that keep the roles and the bounds. -/
theorem everyStepKeepsJobRolesAndBounds : Obligations.EveryStepKeepsJobRolesAndBounds := by
  unfold Obligations.EveryStepKeepsJobRolesAndBounds
  exact ⟨fun s t roles h => (step_bounds h).roles roles, fun s t roles within h => (step_bounds h).targets roles within,
    fun s t roles within h => (step_bounds h).trims roles within⟩

end Sys2Proof.Machine
end

section
/-! SUPPORT. Strip Assembly Buffers: the overlap of a column with a zone, what a column value does, sums over the columns of a
strip, and the search for a buffer (R34, R42, R44, R45). -/

set_option Elab.async false

namespace Sys2Proof.Machine

/-! ### Overlaps (R45) -/

/-- Of `n` numbers from `a` on, those in an interval. -/
theorem length_filter_interval (a n lo hi : Nat) (ordered : lo ≤ hi) :
    ((List.range n).filter fun k => decide (lo ≤ a + k) && decide (a + k < hi)).length = min (a + n) hi - max a lo := by
  induction n with
  | zero => simp
  | succ n ih =>
    rw [List.range_succ, List.filter_append, List.length_append, ih]
    by_cases inside : lo ≤ a + n ∧ a + n < hi
    · simp only [List.filter_singleton, inside, decide_true, Bool.and_self, cond_true, List.length_singleton]
      omega
    · simp only [List.filter_singleton, ← Bool.decide_and, inside, decide_false, cond_false, List.length_nil]
      omega

theorem zone_ordered (m : ZoneMap) (z : Nat) : m.edge + z * m.width ≤ m.edge + (z + 1) * m.width :=
  Nat.add_le_add_left (Nat.mul_le_mul_right _ (Nat.le_succ z)) _

/-- The overlap of a column with a zone, sixteenth by sixteenth. -/
theorem overlap_eq_count (m : ZoneMap) (c z : Nat) : overlap m c z = ((List.range 16).filter fun k =>
    decide (m.edge + z * m.width ≤ 16 * c + k) && decide (16 * c + k < m.edge + (z + 1) * m.width)).length :=
  (length_filter_interval (16 * c) 16 _ _ (zone_ordered m z)).symm

/-- What the first `n` columns have in a zone. -/
theorem sum_overlap (m : ZoneMap) (z n : Nat) :
    ((List.range n).map fun c => overlap m c z).sum = min (16 * n) (m.edge + (z + 1) * m.width) - (m.edge + z * m.width) := by
  have ordered := zone_ordered m z
  induction n with
  | zero => simp
  | succ n ih =>
    rw [List.range_succ, List.map_append, List.sum_append, ih, List.map_singleton, List.sum_singleton, overlap]
    omega

theorem sum_overlap_le (m : ZoneMap) (z n : Nat) : ((List.range n).map fun c => overlap m c z).sum ≤ m.width := by
  rw [sum_overlap, Nat.add_mul, Nat.one_mul]
  omega

/-! ### Sums over the columns of a strip (R44) -/

theorem sum_range_reflect (f : Nat → Nat) (n : Nat) :
    ((List.range n).map fun i => f (n - 1 - i)).sum = ((List.range n).map f).sum := by
  have reversed : (List.range n).map (fun i => n - 1 - i) = (List.range n).reverse := by
    rw [List.range_eq_range', List.reverse_range', List.range_eq_range']
    simp
  have mapped : (List.range n).map (fun i => f (n - 1 - i)) = ((List.range n).reverse).map f := by
    rw [← reversed, List.map_map]
    rfl
  rw [mapped, List.map_reverse, List.sum_reverse]

/-! ### A column value (R42, R45) -/

theorem integrateFrom_length (m : ZoneMap) (c v k : Nat) (acc : List Nat) : (integrateFrom m c v k acc).length = acc.length := by
  induction acc generalizing k with
  | nil => rfl
  | cons a acc ih => rw [integrateFrom, List.length_cons, List.length_cons, ih]

theorem integrateFrom_getD (m : ZoneMap) (c v k : Nat) (acc : List Nat) {z : Nat} (h : z < acc.length) :
    (integrateFrom m c v k acc).getD z 0 = acc.getD z 0 + v * overlap m c (k + z) := by
  induction acc generalizing k z with
  | nil => cases h
  | cons a acc ih =>
    rw [integrateFrom]
    cases z with
    | zero => rfl
    | succ z =>
      rw [List.getD_cons_succ, List.getD_cons_succ, ih (k + 1) (Nat.lt_of_succ_lt_succ h)]
      congr 3
      omega

theorem Buffer.column_congr {b c : Buffer} (order : c.order = b.order) (length : c.length = b.length) (i : Nat) :
    c.column i = b.column i := by
  unfold Buffer.column
  rw [order, length]

section
variable (m : ZoneMap) {b : Buffer} {i : Nat} (v : Nat)

theorem takeColumn_excess (h : b.length ≤ i) :
    takeColumn m b i v = { b with excessCount := incHeld Config.countMax b.excessCount } := by
  rw [takeColumn, if_pos h]

theorem takeColumn_duplicate (h : i < b.length) (received : b.received.getD i false = true) :
    takeColumn m b i v = { b with duplicateCount := incHeld Config.countMax b.duplicateCount } := by
  rw [takeColumn, if_neg (Nat.not_le.2 h), if_pos received]

theorem takeColumn_taken (h : i < b.length) (fresh : b.received.getD i false = false) :
    takeColumn m b i v = { b with
      acc := integrateFrom m (b.column i) (min v 1000) 0 b.acc
      received := b.received.set i true
      receivedCount := incHeld Config.countMax b.receivedCount
      clampedCount := if 1000 < v then incHeld Config.countMax b.clampedCount else b.clampedCount } := by
  rw [takeColumn, if_neg (Nat.not_le.2 h), if_neg (by rw [fresh]; decide)]

end

/-- A column value is excess, a duplicate or taken. -/
theorem takeColumn_keeps {P : Buffer → Prop} (m : ZoneMap) {b : Buffer} {i : Nat} (v : Nat)
    (excess : ∀ n, P { b with excessCount := n }) (duplicate : ∀ n, P { b with duplicateCount := n })
    (taken : i < b.length → b.received.getD i false = false → P (takeColumn m b i v)) : P (takeColumn m b i v) := by
  by_cases beyond : b.length ≤ i
  · rw [takeColumn_excess m v beyond]
    exact excess _
  · cases received : b.received.getD i false with
    | true =>
      rw [takeColumn_duplicate m v (Nat.lt_of_not_le beyond) received]
      exact duplicate _
    | false => exact taken (Nat.lt_of_not_le beyond) received

theorem takeColumn_fixed (m : ZoneMap) (b : Buffer) (i v : Nat) : (takeColumn m b i v).slot = b.slot
    ∧ (takeColumn m b i v).tower = b.tower ∧ (takeColumn m b i v).length = b.length ∧ (takeColumn m b i v).order = b.order := by
  refine takeColumn_keeps (P := fun c => c.slot = b.slot ∧ c.tower = b.tower ∧ c.length = b.length ∧ c.order = b.order) m v
    (fun _ => ⟨rfl, rfl, rfl, rfl⟩) (fun _ => ⟨rfl, rfl, rfl, rfl⟩) fun h fresh => ?_
  rw [takeColumn_taken m v h fresh]
  exact ⟨rfl, rfl, rfl, rfl⟩

theorem takeColumns_fixed (m : ZoneMap) (b : Buffer) (i : Nat) (vals : List Nat) : (takeColumns m b i vals).slot = b.slot
    ∧ (takeColumns m b i vals).tower = b.tower := by
  induction vals generalizing b i with
  | nil => exact ⟨rfl, rfl⟩
  | cons v vals ih =>
    obtain ⟨slot, tower, -⟩ := takeColumn_fixed m b i v
    exact ⟨(ih _ _).1.trans slot, (ih _ _).2.trans tower⟩

/-! ### What a buffer keeps about its columns (R34, R42, R45) -/

/-- A buffer integrates against a zone map: the lengths and counts agree with what has been received. -/
structure Buffer.Sound (b : Buffer) (m : ZoneMap) : Prop where
  zones : b.acc.length = m.zones
  length : b.length ≤ 2048
  columns : b.received.length = b.length
  received : b.receivedCount = (b.received.filter id).length
  clamped : b.clampedCount ≤ b.receivedCount
  bounded : ∀ z, z < m.zones → b.acc.getD z 0 ≤ 1000 * b.covered m z

/-- A column is received, of a list in which it had not been. -/
theorem length_filter_set {l : List Bool} {i : Nat} (h : i < l.length) (fresh : l.getD i false = false) :
    ((l.set i true).filter id).length = (l.filter id).length + 1 := by
  induction l generalizing i with
  | nil => cases h
  | cons a l ih =>
    cases i with
    | zero =>
      obtain rfl : a = false := fresh
      rfl
    | succ i =>
      rw [List.set_cons_succ]
      have rest := ih (Nat.lt_of_succ_lt_succ h) fresh
      cases a with
      | false => exact rest
      | true => exact congrArg (· + 1) rest

theorem getD_set_true {l : List Bool} {i : Nat} (h : i < l.length) (k : Nat) :
    (l.set i true).getD k false = if k = i then true else l.getD k false := by
  rw [List.getD_eq_getElem?_getD, List.getD_eq_getElem?_getD, List.getElem?_set]
  by_cases here : k = i
  · rw [if_pos here, if_pos here.symm, if_pos (here ▸ h)]
    rfl
  · rw [if_neg here, if_neg (Ne.symm here)]

/-- A received column adds its overlap to what is covered of each zone. -/
theorem covered_set (m : ZoneMap) {b c : Buffer} {i : Nat} (h : i < b.received.length) (short : b.received.length = b.length)
    (fresh : b.received.getD i false = false) (received : c.received = b.received.set i true) (length : c.length = b.length)
    (order : c.order = b.order) (z : Nat) : c.covered m z = b.covered m z + overlap m (b.column i) z := by
  have inside : i ∈ List.range b.length := List.mem_range.2 (short ▸ h)
  have sums := sum_map_replace (List.nodup_range (n := b.length)) inside
    (f := fun k => if b.received.getD k false then overlap m (b.column k) z else 0)
    (g := fun k => if c.received.getD k false then overlap m (c.column k) z else 0) fun k other => by
      rw [received, getD_set_true h, if_neg other, Buffer.column_congr order length]
  simp only [fresh, received, getD_set_true h, if_true, Buffer.column_congr order length, Bool.false_eq_true, if_false,
    Nat.add_zero] at sums
  unfold Buffer.covered
  simp only [received, getD_set_true h, Buffer.column_congr order length, length]
  exact sums

theorem covered_le (b : Buffer) (m : ZoneMap) (z : Nat) : b.covered m z ≤ m.width := by
  have all : b.covered m z ≤ ((List.range b.length).map fun i => overlap m (b.column i) z).sum := by
    refine List.sum_le_sum fun i _ => ?_
    split
    · exact Nat.le_refl _
    · exact Nat.zero_le _
  refine all.trans ?_
  unfold Buffer.column
  cases b.order with
  | ascending => exact sum_overlap_le m z b.length
  | descending =>
    rw [sum_range_reflect (fun c => overlap m c z)]
    exact sum_overlap_le m z b.length

theorem Buffer.Sound.takeColumn {b : Buffer} {m : ZoneMap} (h : b.Sound m) (i v : Nat) : (takeColumn m b i v).Sound m := by
  refine takeColumn_keeps (P := fun c => c.Sound m) m v (fun _ => ⟨h.1, h.2, h.3, h.4, h.5, h.6⟩)
    (fun _ => ⟨h.1, h.2, h.3, h.4, h.5, h.6⟩) fun inside fresh => ?_
  have here : i < b.received.length := h.columns ▸ inside
  have covered := covered_set m (c := Machine.takeColumn m b i v) here h.columns fresh
  rw [takeColumn_taken m v inside fresh] at covered ⊢
  have one := length_filter_set here fresh
  have some := (b.received.set i true).length_filter_le id
  rw [List.length_set, h.columns] at some
  have count : incHeld Config.countMax b.receivedCount = b.receivedCount + 1 := by
    have few := h.length
    rw [incHeld, h.received]
    exact Nat.min_eq_right (by rw [← one]; exact (some.trans few).trans (by decide))
  refine ⟨(integrateFrom_length ..).trans h.zones, h.length, (List.length_set ..).trans h.columns, ?_, ?_, fun z there => ?_⟩
  · exact count.trans (by rw [one, h.received])
  · change (if 1000 < v then incHeld Config.countMax b.clampedCount else b.clampedCount) ≤ incHeld Config.countMax b.receivedCount
    rw [count]
    have before := h.clamped
    split
    · exact (Nat.min_le_right ..).trans (Nat.succ_le_succ before)
    · exact Nat.le_succ_of_le before
  · rw [covered rfl rfl rfl, integrateFrom_getD _ _ _ _ _ (h.zones ▸ there), Nat.zero_add, Nat.mul_add]
    exact Nat.add_le_add (h.bounded z there) (Nat.mul_le_mul_right _ (Nat.min_le_right ..))

theorem Buffer.Sound.takeColumns {b : Buffer} {m : ZoneMap} (h : b.Sound m) (i : Nat) (vals : List Nat) :
    (takeColumns m b i vals).Sound m := by
  induction vals generalizing b i with
  | nil => exact h
  | cons v vals ih => exact ih (h.takeColumn i v) (i + 1)

theorem Buffer.fresh_sound (j : SlotIdx) (u : TowerIdx) {length : Nat} (short : length ≤ 2048) (order : ScanOrder) (m : ZoneMap) :
    (Buffer.fresh j u length order m.zones).Sound m where
  zones := List.length_replicate
  length := short
  columns := List.length_replicate
  received := by simp [Buffer.fresh]
  clamped := Nat.le_refl 0
  bounded z there := by simp [Buffer.fresh]

/-- Every coverage value is at most 1000. -/
theorem Buffer.Sound.coverage_le {b : Buffer} {m : ZoneMap} (h : b.Sound m) (wide : 0 < m.width) : ∀ v ∈ b.coverage m, v ≤ 1000 := by
  intro v there
  obtain ⟨a, member, rfl⟩ := List.mem_map.1 there
  obtain ⟨z, inside, rfl⟩ := List.getElem_of_mem member
  refine halfUp_le wide ?_
  have bounded := h.bounded z (h.zones ▸ inside)
  rw [List.getD_eq_getElem _ _ inside] at bounded
  exact bounded.trans (Nat.mul_le_mul_left _ (covered_le b m z))

/-! ### The search for a buffer (R34) -/

theorem putBuffer_buffer (s : State) (i : Fin 4) (x : Option Buffer) (k : Fin 4) :
    look (s.putBuffer i x).buffers k = if i = k then x else look s.buffers k := look_put ..

theorem bufferOf_some {s : State} {j : SlotIdx} {u : TowerIdx} {i : Fin 4} {b : Buffer} (h : s.bufferOf j u = some (i, b)) :
    look s.buffers i = some b ∧ b.slot = j ∧ b.tower = u := by
  obtain ⟨k, -, found⟩ := List.exists_of_findSome?_eq_some h
  split at found
  · next c held =>
    split at found
    · next bound =>
      obtain ⟨rfl, rfl⟩ := Prod.mk.inj (Option.some.inj found)
      exact ⟨held, by simpa [Buffer.boundTo] using bound⟩
    · cases found
  · cases found

theorem bufferOf_none {s : State} {j : SlotIdx} {u : TowerIdx} (h : s.bufferOf j u = none) {i : Fin 4} {b : Buffer}
    (held : look s.buffers i = some b) : ¬ (b.slot = j ∧ b.tower = u) := by
  have off := List.findSome?_eq_none_iff.1 h i (List.mem_finRange i)
  simpa [held, Buffer.boundTo] using off

theorem freeBuffer_some {s : State} {i : Fin 4} (h : s.freeBuffer = some i) : look s.buffers i = none := by
  have free := List.find?_some h
  simpa using free

end Sys2Proof.Machine
end

section
/-! SUPPORT. The Strip Assembly Buffers in agreement with the Job Slots under every command (R34, R35, R45, R46). -/

set_option Elab.async false

namespace Sys2Proof.Machine

/-- A bound buffer's strip is OPEN, with a zone map that the buffer integrates against (R34, R35). -/
def State.binds (s : State) (b : Buffer) : Prop :=
  ∃ m, (s.record b.slot b.tower).strip = .opened ∧ (s.record b.slot b.tower).zoneMap = some m ∧ b.Sound m

/-- The ranges of R26. -/
def ZoneMap.Ranged (m : ZoneMap) : Prop :=
  8 ≤ m.zones ∧ m.zones ≤ 48 ∧ 16 ≤ m.width ∧ m.width ≤ 4096 ∧ m.edge + m.zones * m.width ≤ 32768

/-- `StripsConsistent`, clause by clause. -/
structure Strips (s : State) : Prop where
  bound : ∀ i b, look s.buffers i = some b → s.binds b
  open_bound : ∀ j u, (s.record j u).strip = .opened → ∃ i b, look s.buffers i = some b ∧ b.slot = j ∧ b.tower = u
  once : ∀ i k b c, look s.buffers i = some b → look s.buffers k = some c → b.slot = c.slot → b.tower = c.tower → i = k
  coverage : ∀ j u c, (s.record j u).coverage = some c → ∀ v ∈ c, v ≤ 1000
  maps : ∀ j u m, (s.record j u).zoneMap = some m → m.Ranged

theorem stripsConsistent_iff {s : State} : StripsConsistent s ↔ Strips s := by
  have sound : ∀ (b : Buffer) (m : ZoneMap), b.Sound m ↔ b.acc.length = m.zones ∧ b.length ≤ 2048 ∧ b.received.length = b.length
      ∧ b.receivedCount = (b.received.filter id).length ∧ b.clampedCount ≤ b.receivedCount
      ∧ ∀ z, z < m.zones → b.acc.getD z 0 ≤ 1000 * b.covered m z := fun b m =>
    ⟨fun ⟨h1, h2, h3, h4, h5, h6⟩ => ⟨h1, h2, h3, h4, h5, h6⟩, fun ⟨h1, h2, h3, h4, h5, h6⟩ => ⟨h1, h2, h3, h4, h5, h6⟩⟩
  simp only [StripsConsistent, ← sound]
  exact ⟨fun ⟨h1, h2, h3, h4, h5⟩ => ⟨h1, h2, h3, h4, h5⟩, fun ⟨h1, h2, h3, h4, h5⟩ => ⟨h1, h2, h3, h4, h5⟩⟩

/-! ### What the agreement reads -/

/-- The strip settings of a record: strip state, zone map, coverage array. -/
def TowerSettings.strips (r : TowerSettings) : StripState × Option ZoneMap × Option (List Nat) := (r.strip, r.zoneMap, r.coverage)

section
variable {r r' : TowerSettings} (h : r'.strips = r.strips)
include h

theorem TowerSettings.strip_congr : r'.strip = r.strip := congrArg Prod.fst h
theorem TowerSettings.zoneMap_congr : r'.zoneMap = r.zoneMap := congrArg (·.2.1) h
theorem TowerSettings.coverage_congr : r'.coverage = r.coverage := congrArg (·.2.2) h

end

/-- The strip settings of every record and the buffers stand. -/
structure SameStrips (s t : State) : Prop where
  records : ∀ j u, (t.record j u).strips = (s.record j u).strips
  buffers : t.buffers = s.buffers

namespace SameStrips

variable {s t r : State}

theorem refl (s : State) : SameStrips s s := ⟨fun _ _ => rfl, rfl⟩

theorem trans (h : SameStrips s t) (h' : SameStrips t r) : SameStrips s r :=
  ⟨fun j u => (h'.records j u).trans (h.records j u), h'.buffers.trans h.buffers⟩

theorem of_frame {bs : List Block} (frame : OnlyChanges bs s t) (jobs : Block.jobs ∉ bs := by decide)
    (buffers : Block.buffers ∉ bs := by decide) : SameStrips s t :=
  ⟨fun j u => by rw [record_congr (frame.jobs jobs)], frame.buffers buffers⟩

end SameStrips

theorem Strips.congr {s t : State} (h : Strips s) (same : SameStrips s t) : Strips t where
  bound i b held := by
    rw [same.buffers] at held
    obtain ⟨m, opened, map, sound⟩ := h.bound i b held
    have record := same.records b.slot b.tower
    exact ⟨m, (TowerSettings.strip_congr record).trans opened, (TowerSettings.zoneMap_congr record).trans map, sound⟩
  open_bound j u opened := by
    rw [same.buffers]
    exact h.open_bound j u ((TowerSettings.strip_congr (same.records j u)).symm.trans opened)
  once := by
    rw [same.buffers]
    exact h.once
  coverage j u c held := h.coverage j u c ((TowerSettings.coverage_congr (same.records j u)).symm.trans held)
  maps j u m held := h.maps j u m ((TowerSettings.zoneMap_congr (same.records j u)).symm.trans held)

/-! ### Slots written -/

theorem SlotWritten.record_of {s t : State} {j : SlotIdx} {u : TowerIdx} {r : TowerSettings}
    (h : SlotWritten s t j (s.withRecord j u r)) (i : SlotIdx) (v : TowerIdx) :
    t.record i v = if i = j ∧ u = v then r else s.record i v := by
  rw [h.record]
  by_cases slot : i = j
  · subst slot
    rw [if_pos rfl, withRecord_look]
    by_cases tower : u = v
    · rw [if_pos tower, if_pos ⟨rfl, tower⟩]
    · rw [if_neg tower, if_neg fun both => tower both.2]
  · rw [if_neg slot, if_neg fun both => slot both.1]

theorem readinessEvaluation_record (j : SlotIdx) (s : State) (i : SlotIdx) (v : TowerIdx) :
    (readinessEvaluation j s).record i v = s.record i v := by
  rw [(slotWritten_evaluation j s).record]
  split
  · next here => rw [here]; rfl
  · rfl

/-- A record written with the strip settings it had. -/
theorem writeRecord_sameStrips {s : State} {j : SlotIdx} {u : TowerIdx} {r : TowerSettings}
    (same : r.strips = (s.record j u).strips) : SameStrips s (readinessEvaluation j (writeRecord j u r s)) := by
  refine ⟨fun i v => ?_, (readiness_write_frame j u r s).buffers⟩
  rw [(slotWritten_record j u r s).record_of]
  split
  · next here => rw [here.1, ← here.2, same]
  · rfl

theorem changeLibrary_sameStrips (c : CurveIdx) (x : Option Curve) (s : State) : SameStrips s (changeLibrary c x s) :=
  ⟨fun j u => by rw [changeLibrary_record], (changeLibrary_frame c x s).buffers⟩

/-- A slot whose content is replaced by one with the same records. -/
theorem putJob_sameStrips {s : State} {j : SlotIdx} {x : JobSlot} (same : x.job.towers = (look s.jobs j).job.towers) :
    SameStrips s (s.putJob j x) := by
  refine ⟨fun i u => ?_, rfl⟩
  rw [State.record, putJob_look]
  split
  · next here => rw [same, here]; rfl
  · rfl

theorem setJobLabel_sameStrips (p : List Byte) (s : State) : SameStrips s (setJobLabel p s).state := by
  refine setJobLabel_state (.refl s) (fun j label => ⟨fun i u => ?_, ?_⟩) p
  · rw [readinessEvaluation_record, (slotWritten_store j _ s).record]
    split
    · next here => rw [here]; rfl
    · rfl
  · exact (readinessEvaluation_frame _ _).buffers.trans (storeJob_frame _ _ s).buffers

theorem configureTower_sameStrips (p : List Byte) (s : State) : SameStrips s (configureTower p s).state := by
  unfold configureTower
  split
  · exact .refl s
  · refine loadRequest_state (.refl s) fun j u t extra _ _ _ _ accept => ?_
    obtain ⟨rfl, -⟩ := Verdict.accept.inj accept
    have written := writeRecord_sameStrips (s := s) (j := j) (u := u) (r := (s.record j u).configure p) rfl
    split
    · exact written.trans (.of_frame (handOnConfigure_frame _ _ _ _))
    · exact written

theorem setTargets_sameStrips (p : List Byte) (s : State) : SameStrips s (setTargets p s).state := by
  unfold setTargets
  split
  · exact .refl s
  · refine loadRequest_state (.refl s) fun j u t extra _ _ _ _ accept => ?_
    obtain ⟨rfl, -⟩ := Verdict.accept.inj accept
    have written := writeRecord_sameStrips (s := s) (j := j) (u := u) (r := (s.record j u).retargeted p) rfl
    split
    · exact written.trans (.of_frame (handOnTargets_frame _ _ _))
    · exact written

theorem setOffsets_sameStrips (p : List Byte) (s : State) : SameStrips s (setOffsets p s).state := by
  unfold setOffsets
  dsimp only
  split
  · exact .refl s
  · split
    · exact .refl s
    · split
      · exact .refl s
      · refine loadRequest_state (.refl s) fun j u t extra _ _ _ _ accept => ?_
        obtain ⟨m, -, -, rfl⟩ := offsetsBody_accept accept
        have written := writeRecord_sameStrips (s := s) (j := j) (u := u) (r := { s.record j u with
          offsets := writeOffsets (s.record j u).offsets (u8 p 2) (s16s p 4 (u8 p 3)) }) rfl
        split
        · exact written.trans (.trans (.of_frame (zoneUpdates_handing u _ _).frame) (.of_frame (scanIfPending_frame _ _)))
        · exact written

/-! ### Zone maps and strips -/

/-- A new zone map of a tower whose strip is not OPEN. -/
theorem Strips.mapped {s : State} (h : Strips s) {j : SlotIdx} {u : TowerIdx} (closed : (s.record j u).strip ≠ .opened)
    {m : ZoneMap} (inRange : m.Ranged) : Strips (readinessEvaluation j (writeRecord j u ((s.record j u).mapped m) s)) := by
  have record := (slotWritten_record j u ((s.record j u).mapped m) s).record_of
  have buffers := (readiness_write_frame j u ((s.record j u).mapped m) s).buffers
  refine ⟨fun i b held => ?_, fun i v opened => ?_, fun i k b c => by rw [buffers]; exact h.once i k b c, fun i v c held => ?_,
    fun i v n held => ?_⟩
  · rw [buffers] at held
    obtain ⟨n, opened, map, sound⟩ := h.bound i b held
    have apart : ¬ (b.slot = j ∧ u = b.tower) := by
      rintro ⟨rfl, rfl⟩
      exact closed opened
    refine ⟨n, ?_, ?_, sound⟩
    · rw [record, if_neg apart, opened]
    · rw [record, if_neg apart, map]
  · rw [buffers]
    rw [record] at opened
    split at opened
    · cases opened
    · exact h.open_bound i v opened
  · rw [record] at held
    split at held
    · cases held
    · exact h.coverage i v c held
  · rw [record] at held
    split at held
    · obtain rfl := Option.some.inj held
      exact inRange
    · exact h.maps i v n held

/-- The bound buffer of an OPEN strip replaced by another that is sound. -/
theorem Strips.replaced {s : State} (h : Strips s) {i : Fin 4} {b c : Buffer} (held : look s.buffers i = some b)
    (slot : c.slot = b.slot) (tower : c.tower = b.tower)
    (sound : ∀ m, (s.record b.slot b.tower).zoneMap = some m → b.Sound m → c.Sound m) : Strips (s.putBuffer i (some c)) := by
  have found : ∀ k x, look (s.putBuffer i (some c)).buffers k = some x →
      (i = k ∧ x = c) ∨ i ≠ k ∧ look s.buffers k = some x := fun k x there => by
    rw [putBuffer_buffer] at there
    split at there
    · next here => exact .inl ⟨here, (Option.some.inj there).symm⟩
    · next other => exact .inr ⟨other, there⟩
  refine ⟨fun k x there => ?_, fun j u opened => ?_, fun k l x y hx hy same same' => ?_, h.coverage, h.maps⟩
  · obtain ⟨rfl, rfl⟩ | ⟨-, there⟩ := found k x there
    · obtain ⟨m, opened, map, before⟩ := h.bound i b held
      unfold State.binds
      rw [slot, tower]
      exact ⟨m, opened, map, sound m map before⟩
    · exact h.bound k x there
  · obtain ⟨k, x, there, rfl, rfl⟩ := h.open_bound j u opened
    by_cases here : i = k
    · subst here
      obtain rfl := Option.some.inj (held.symm.trans there)
      exact ⟨i, c, by rw [putBuffer_buffer, if_pos rfl], slot, tower⟩
    · exact ⟨k, x, by rw [putBuffer_buffer, if_neg here]; exact there, rfl, rfl⟩
  · obtain ⟨rfl, rfl⟩ | ⟨-, before⟩ := found k x hx
    · obtain ⟨rfl, rfl⟩ | ⟨-, hy⟩ := found l y hy
      · rfl
      · exact h.once i l b y held hy (slot.symm.trans same) (tower.symm.trans same')
    · obtain ⟨rfl, rfl⟩ | ⟨-, there⟩ := found l y hy
      · exact h.once k i x b before held (same.trans slot) (same'.trans tower)
      · exact h.once k l x y before there same same'

/-- A free buffer bound to a strip that was not OPEN, which becomes OPEN. -/
theorem Strips.opened {s : State} (h : Strips s) {j : SlotIdx} {u : TowerIdx} {m : ZoneMap} {i : Fin 4} {b : Buffer}
    (map : (s.record j u).zoneMap = some m) (closed : (s.record j u).strip ≠ .opened) (free : look s.buffers i = none)
    (slot : b.slot = j) (tower : b.tower = u) (sound : b.Sound m) :
    Strips (readinessEvaluation j (writeRecord j u { s.record j u with strip := .opened } (s.putBuffer i (some b)))) := by
  have record := (slotWritten_record j u { s.record j u with strip := .opened } (s.putBuffer i (some b))).record_of
  have buffers := (readiness_write_frame j u { s.record j u with strip := .opened } (s.putBuffer i (some b))).buffers
  generalize readinessEvaluation j (writeRecord j u { s.record j u with strip := .opened } (s.putBuffer i (some b))) = t at *
  have record : ∀ k v, t.record k v = if k = j ∧ u = v then { s.record j u with strip := .opened } else s.record k v := record
  have found : ∀ k x, look t.buffers k = some x → (i = k ∧ x = b) ∨ i ≠ k ∧ look s.buffers k = some x := fun k x there => by
    rw [buffers, putBuffer_buffer] at there
    split at there
    · next here => exact .inl ⟨here, (Option.some.inj there).symm⟩
    · next other => exact .inr ⟨other, there⟩
  have apart : ∀ k x, look s.buffers k = some x → ¬ (x.slot = j ∧ u = x.tower) := fun k x there => by
    rintro ⟨rfl, rfl⟩
    obtain ⟨_, opened, -⟩ := h.bound k x there
    exact closed opened
  refine ⟨fun k x there => ?_, fun k v opened => ?_, fun k l x y hx hy same same' => ?_, fun k v c held => ?_, fun k v n held => ?_⟩
  · unfold State.binds
    rw [record]
    obtain ⟨rfl, rfl⟩ | ⟨-, there⟩ := found k x there
    · rw [if_pos ⟨slot, tower.symm⟩]
      exact ⟨m, rfl, map, sound⟩
    · rw [if_neg (apart k x there)]
      exact h.bound k x there
  · by_cases here : k = j ∧ u = v
    · obtain ⟨rfl, rfl⟩ := here
      exact ⟨i, b, by rw [buffers, putBuffer_buffer, if_pos rfl], slot, tower⟩
    · rw [record, if_neg here] at opened
      obtain ⟨l, x, there, rest⟩ := h.open_bound k v opened
      refine ⟨l, x, ?_, rest⟩
      rw [buffers, putBuffer_buffer, if_neg fun same => ?_, there]
      rw [← same, free] at there
      cases there
  · obtain ⟨rfl, rfl⟩ | ⟨-, before⟩ := found k x hx
    · obtain ⟨rfl, rfl⟩ | ⟨-, hy⟩ := found l y hy
      · rfl
      · exact absurd ⟨same.symm.trans slot, tower.symm.trans same'⟩ (apart l y hy)
    · obtain ⟨rfl, rfl⟩ | ⟨-, hy⟩ := found l y hy
      · exact absurd ⟨same.trans slot, tower.symm.trans same'.symm⟩ (apart k x before)
      · exact h.once k l x y before hy same same'
  · rw [record] at held
    split at held
    · exact h.coverage j u c held
    · exact h.coverage k v c held
  · rw [record] at held
    split at held
    · exact h.maps j u n held
    · exact h.maps k v n held

/-- The buffer of an OPEN strip freed, the strip CLOSED with a coverage array. -/
theorem Strips.closed {s : State} (h : Strips s) {j : SlotIdx} {u : TowerIdx} {m : ZoneMap} {i : Fin 4} {b : Buffer}
    (map : (s.record j u).zoneMap = some m) (held : look s.buffers i = some b) (slot : b.slot = j) (tower : b.tower = u) :
    Strips (readinessEvaluation j (writeRecord j u { s.record j u with coverage := some (b.coverage m), strip := .closed }
      (s.putBuffer i none))) := by
  have record := (slotWritten_record j u { s.record j u with coverage := some (b.coverage m), strip := .closed }
    (s.putBuffer i none)).record_of
  have buffers := (readiness_write_frame j u { s.record j u with coverage := some (b.coverage m), strip := .closed }
    (s.putBuffer i none)).buffers
  generalize readinessEvaluation j (writeRecord j u { s.record j u with coverage := some (b.coverage m), strip := .closed }
    (s.putBuffer i none)) = t at *
  have record : ∀ k v, t.record k v = if k = j ∧ u = v
      then { s.record j u with coverage := some (b.coverage m), strip := .closed } else s.record k v := record
  have found : ∀ k x, look t.buffers k = some x → i ≠ k ∧ look s.buffers k = some x := fun k x there => by
    rw [buffers, putBuffer_buffer] at there
    split at there
    · cases there
    · next other => exact ⟨other, there⟩
  have apart : ∀ k x, i ≠ k → look s.buffers k = some x → ¬ (x.slot = j ∧ u = x.tower) := fun k x other there both =>
    other (h.once i k b x held there (slot.trans both.1.symm) (tower.trans both.2))
  refine ⟨fun k x there => ?_, fun k v opened => ?_, fun k l x y hx hy => h.once k l x y (found k x hx).2 (found l y hy).2,
    fun k v c covered => ?_, fun k v n mapped => ?_⟩
  · obtain ⟨other, there⟩ := found k x there
    unfold State.binds
    rw [record, if_neg (apart k x other there)]
    exact h.bound k x there
  · rw [record] at opened
    split at opened
    · cases opened
    · next elsewhere =>
      obtain ⟨l, x, there, rfl, rfl⟩ := h.open_bound k v opened
      refine ⟨l, x, ?_, rfl, rfl⟩
      rw [buffers, putBuffer_buffer, if_neg fun same => ?_, there]
      rw [← same, held] at there
      obtain rfl := Option.some.inj there
      exact elsewhere ⟨slot, tower.symm⟩
  · rw [record] at covered
    split at covered
    · obtain rfl := Option.some.inj covered
      obtain ⟨n, -, map', sound⟩ := h.bound i b held
      rw [slot, tower] at map'
      obtain rfl := Option.some.inj (map.symm.trans map')
      obtain ⟨-, -, wide, -⟩ := h.maps j u m map
      exact sound.coverage_le (Nat.lt_of_lt_of_le (by decide) wide)
    · exact h.coverage k v c covered
  · rw [record] at mapped
    split at mapped
    · exact h.maps j u n mapped
    · exact h.maps k v n mapped

/-- An emptied slot, its buffers freed. -/
theorem Strips.emptied {s : State} (h : Strips s) (j : SlotIdx) : Strips (emptySlot j s) := by
  have record : ∀ k v, (emptySlot j s).record k v = if j = k then .default else s.record k v := fun k v => by
    rw [State.record, emptySlot_job]
    split
    · exact look_replicate _ v
    · rfl
  have found : ∀ k x, look (emptySlot j s).buffers k = some x → look s.buffers k = some x ∧ x.slot ≠ j := fun k x there => by
    rw [emptySlot_buffer, Option.filter_eq_some_iff] at there
    exact ⟨there.1, by simpa using there.2⟩
  refine ⟨fun k x there => ?_, fun k v opened => ?_, fun k l x y hx hy => h.once k l x y (found k x hx).1 (found l y hy).1,
    fun k v c covered => ?_, fun k v n mapped => ?_⟩
  · obtain ⟨there, other⟩ := found k x there
    unfold State.binds
    rw [record, if_neg (Ne.symm other)]
    exact h.bound k x there
  · rw [record] at opened
    split at opened
    · cases opened
    · next other =>
      obtain ⟨l, x, there, rfl, rfl⟩ := h.open_bound k v opened
      refine ⟨l, x, ?_, rfl, rfl⟩
      rw [emptySlot_buffer, there, Option.filter_eq_some_iff]
      exact ⟨rfl, by simpa using Ne.symm other⟩
  · rw [record] at covered
    split at covered
    · cases covered
    · exact h.coverage k v c covered
  · rw [record] at mapped
    split at mapped
    · cases mapped
    · exact h.maps k v n mapped

end Sys2Proof.Machine
end

section
/-! PROOF. Coverage strips (chapter 3): buffers, Job Slots and coverage values in agreement under every step. -/

set_option Elab.async false

namespace Sys2Proof.Machine

theorem readinessEvaluation_sameStrips (j : SlotIdx) (s : State) : SameStrips s (readinessEvaluation j s) :=
  ⟨fun i v => by rw [readinessEvaluation_record], (readinessEvaluation_frame j s).buffers⟩

theorem loadZoneMap_strips {s : State} (h : Strips s) (p : List Byte) : Strips (loadZoneMap p s).state := by
  unfold loadZoneMap
  split
  · exact h
  · refine loadRequest_state h fun j u t extra _ _ fields _ accept => ?_
    split at accept
    · cases accept
    · split at accept
      · cases accept
      · next closed =>
        obtain ⟨rfl, -⟩ := Verdict.accept.inj accept
        refine h.mapped closed ?_
        simp only [mapOk, Bool.and_eq_true, decide_eq_true_eq] at fields
        obtain ⟨⟨⟨⟨few, many⟩, narrow, wide⟩, -⟩, inside⟩ := fields
        exact ⟨few, many, narrow, wide, inside⟩

theorem stripOpen_strips {s : State} (h : Strips s) (p : List Byte) : Strips (stripOpen p s).state := by
  unfold stripOpen
  split
  · exact h
  · refine loadRequest_state h fun j u t extra _ _ fields _ accept => ?_
    simp only [openOk, Bool.and_eq_true, decide_eq_true_eq] at fields
    obtain ⟨⟨-, short⟩, -⟩ := fields
    obtain ⟨m, map, ⟨-, -, ⟨i, old, bound, rfl⟩ | ⟨-, rfl⟩⟩ | ⟨closed, -, i, free, rfl⟩⟩ := openBody_accept accept
    · obtain ⟨held, rfl, rfl⟩ := bufferOf_some bound
      have fresh := h.replaced (c := .fresh old.slot old.tower (u16 p 2) (.ofNum (u8 p 4)) m.zones) held rfl rfl fun n map' _ => by
        obtain rfl := Option.some.inj (map.symm.trans map')
        exact Buffer.fresh_sound _ _ short _ m
      exact fresh.congr (readinessEvaluation_sameStrips old.slot _)
    · exact h.congr (readinessEvaluation_sameStrips j s)
    · exact h.opened map closed (freeBuffer_some free) rfl rfl (Buffer.fresh_sound _ _ short _ m)

theorem stripSegment_strips {s : State} (h : Strips s) (p : List Byte) : Strips (stripSegment p s).state := by
  unfold stripSegment
  dsimp only
  split
  · exact h
  · split
    · exact h
    · split
      · exact h
      · refine loadRequest_state h fun j u t extra _ _ _ _ accept => ?_
        obtain ⟨-, m, i, b, map, bound, -, rfl⟩ := segmentBody_accept accept
        obtain ⟨held, rfl, rfl⟩ := bufferOf_some bound
        obtain ⟨slot, tower⟩ := takeColumns_fixed m b (u16 p 2) (u16s p 5 (u8 p 4))
        refine Strips.congr (h.replaced held slot tower fun n map' sound => ?_) (readinessEvaluation_sameStrips b.slot _)
        obtain rfl := Option.some.inj (map.symm.trans map')
        exact sound.takeColumns _ _

theorem stripClose_strips {s : State} (h : Strips s) (p : List Byte) : Strips (stripClose p s).state := by
  unfold stripClose
  split
  · exact h
  · refine loadRequest_state h fun j u t extra _ _ _ _ accept => ?_
    obtain ⟨-, m, i, b, map, bound, -, rfl⟩ := closeBody_accept accept
    obtain ⟨held, slot, tower⟩ := bufferOf_some bound
    have closed := h.closed map held slot tower
    split
    · exact closed.congr (.of_frame (passCause_frame u _))
    · exact closed

/-! ### Changeovers -/

theorem exchangeJobs_strips {s : State} (h : Strips s) (j : SlotIdx) : Strips (exchangeJobs j s) := by
  unfold exchangeJobs
  split
  · exact (h.emptied _).congr (putJob_sameStrips rfl)
  · exact h.congr (putJob_sameStrips rfl)

theorem takeArmed_strips {s : State} (h : Strips s) : Strips (takeArmed s) := by
  unfold takeArmed
  split
  · next a _ =>
    rw [takeChangeover_eq]
    have started : Strips (s.setCycle { s.cycle with
        armed := none, hold := tab fun u => (look (look s.jobs a.slot).job.towers u).enabled }) := h.congr (.of_frame (setCycle_frame s _))
    exact (exchangeJobs_strips started a.slot).congr (.of_frame (afterExchange_frame _ _))
  · exact h

theorem pressPhase_strips {s : State} (h : Strips s) (p : List Byte) : Strips (pressPhase p s).state := by
  unfold pressPhase
  split
  · exact h
  · split
    · exact h
    · next ph _ =>
      have entered : Strips (s.setCycle { s.cycle with phase := ph }) := h.congr (.of_frame (setCycle_frame s _))
      dsimp only
      have taken : Strips (if ph = .idle ∧ s.cycle.phase ≠ .idle ∧ s.cycle.armed.isSome
          then takeArmed (s.setCycle { s.cycle with phase := ph }) else s.setCycle { s.cycle with phase := ph }) := by
        split
        · exact takeArmed_strips entered
        · exact entered
      split
      · exact taken
      · exact taken.congr (.of_frame (dispatchScan_frame _))

/-- A slot that keeps its job in another state, with whatever the Cycle Unit records. -/
theorem reroled_sameStrips (s : State) (j : SlotIdx) (role : Role) (x : Cycle) :
    SameStrips s ((s.putJob j (.held role (look s.jobs j).job)).setCycle x) :=
  SameStrips.trans (putJob_sameStrips (x := .held role (look s.jobs j).job) rfl) (.of_frame (setCycle_frame _ _))

theorem changeover_strips {s : State} (h : Strips s) (p : List Byte) : Strips (changeover p s).state := by
  unfold changeover
  dsimp only
  split
  · exact h
  · split
    · exact h
    · next j _ =>
      split
      · split
        · exact h
        · split
          · exact h
          · split
            · exact h
            · have armed : Strips ((s.putJob j (.held .armed (look s.jobs j).job)).setCycle
                  { s.cycle with armed := some ⟨j, u8 p 1 == 1⟩ }) :=
                h.congr (reroled_sameStrips s j .armed _)
              split
              · dsimp only
                exact takeArmed_strips armed
              · exact armed
      · exact h

theorem cancelChangeover_strips {s : State} (h : Strips s) (p : List Byte) : Strips (cancelChangeover p s).state := by
  unfold cancelChangeover
  split
  · exact h
  · split
    · exact h
    · exact h.congr (reroled_sameStrips s _ .ready _)

theorem sheetMark_strips {s : State} (h : Strips s) : Strips (sheetMark s) := by
  unfold sheetMark
  split
  · exact h
  · exact takeArmed_strips (h.congr (.of_frame (setCycle_frame s _)))

/-! ### Every command -/

theorem handler_strips {s : State} (h : Strips s) (k : RequestKind) (p : List Byte) : Strips (k.handler p s).state := by
  cases k
  case loadCurve => exact loadCurve_state h (fun c x => h.congr (changeLibrary_sameStrips c x s)) p
  case eraseCurve => exact eraseCurve_state h (fun c x => h.congr (changeLibrary_sameStrips c x s)) p
  case readCurve => exact h
  case setJobLabel => exact h.congr (setJobLabel_sameStrips p s)
  case configureTower => exact h.congr (configureTower_sameStrips p s)
  case setTargets => exact h.congr (setTargets_sameStrips p s)
  case loadZoneMap => exact loadZoneMap_strips h p
  case setOffsets => exact h.congr (setOffsets_sameStrips p s)
  case clearJob => exact clearJob_state h (fun j _ _ _ _ => h.emptied j) p
  case readSettings => exact h
  case stripOpen => exact stripOpen_strips h p
  case stripSegment => exact stripSegment_strips h p
  case stripClose => exact stripClose_strips h p
  case setMotionLimits => exact h.congr (.of_frame (setMotionLimits_frame p s))
  case clearKeyFault => exact h.congr (.of_frame (clearKeyFault_frame p s))
  case armTrim => exact h.congr (.of_frame (armTrim_frame p s))
  case clearTrim => exact h.congr (.of_frame (clearTrim_frame p s))
  case loadTrimBands => exact h.congr (.of_frame (loadTrimBands_frame p s))
  case pressPhase => exact pressPhase_strips h p
  case changeover => exact changeover_strips h p
  case cancelChangeover => exact cancelChangeover_strips h p
  case setNoticeControl => exact h.congr (.of_frame (setNoticeControl_frame p s))
  case clearPending => exact h.congr (.of_frame (clearPending_frame p s))
  case readZone => exact h
  case readTower => exact h
  case readStatus => exact h
  case bridgeReset =>
    change Strips (bridgeReset p s).state
    unfold bridgeReset
    split
    · exact h
    · exact (stripsConsistent_iff.1 stripsConsistent_reset).congr ⟨fun _ _ => rfl, rfl⟩

/-- The commands that may change the Job Slots or the buffers. -/
theorem strips_commands {c : Instr} (h : ¬ (Block.jobs ∉ c.changes ∧ Block.buffers ∉ c.changes)) :
    (∃ k, (c, k) ∈ requestCommands) ∨ c = .sheetMark ∨ c = .powerOnReset := by
  cases c <;> simp [Instr.changes, requestCommands] at h ⊢

theorem takeRequest_strips {s : State} (h : Strips s) (k : RequestKind) : Strips (takeRequest k k.handler s) := by
  obtain idle | ⟨f, rest, -, taken⟩ := takeRequest_cases k k.handler s
  · rwa [idle]
  · rw [taken]
    exact (handler_strips (h.congr (.of_frame (taken_frame s rest))) k _).congr (.of_frame (answer_frame _ _ _ _))

theorem exec_strips {c : Instr} {s t : State} (h : Strips s) (ran : exec c s = .next t) : Strips t := by
  by_cases still : Block.jobs ∉ c.changes ∧ Block.buffers ∉ c.changes
  · exact h.congr (.of_frame (exec_frame ran) still.1 still.2)
  obtain ⟨k, request⟩ | rfl | rfl := strips_commands still
  · rw [exec_request request] at ran
    exact Host.Outcome.next.inj ran ▸ takeRequest_strips h k
  all_goals rw [← Host.Outcome.next.inj ran]
  · exact sheetMark_strips h
  · exact (stripsConsistent_iff.1 stripsConsistent_reset).congr ⟨fun _ _ => rfl, rfl⟩

theorem tick_sameStrips (s : State) : SameStrips s (tick s) := .of_frame (tick_frame s)

/-- Settles O60: strips are opened, filled, closed and freed by operations that keep the agreement; every other command leaves
strips and buffers. -/
theorem everyStepKeepsStripsConsistent : Obligations.EveryStepKeepsStripsConsistent := by
  unfold Obligations.EveryStepKeepsStripsConsistent
  intro s t holds h
  rw [stripsConsistent_iff] at holds ⊢
  exact step_keeps (fun s rest h => h.congr ⟨fun _ _ => rfl, rfl⟩) (fun s h => h.congr (tick_sameStrips s))
    (fun _ _ _ h ran => exec_strips h ran) holds h

end Sys2Proof.Machine
end

section
/-! PROOF. Zone integration (section 3.3): a column value by its overlaps, and the two scan orders of one plate. -/

set_option Elab.async false

namespace Sys2Proof.Machine

/-- Settles O32: the overlap of a column with a zone counts the sixteenths that lie in it. -/
theorem columnValuesAreIntegratedByOverlap : Obligations.ColumnValuesAreIntegratedByOverlap := by
  unfold Obligations.ColumnValuesAreIntegratedByOverlap
  intro m b i v columns
  dsimp only
  refine ⟨fun beyond => takeColumn_excess m v beyond, fun inside received => takeColumn_duplicate m v inside received,
    fun inside fresh => ?_⟩
  have here : i < b.received.length := columns ▸ inside
  rw [takeColumn_taken m v inside fresh]
  refine ⟨integrateFrom_length .., fun z there => ?_, (List.length_set ..).trans columns, fun k _ => getD_set_true here k, rfl, rfl, rfl⟩
  rw [integrateFrom_getD _ _ _ _ _ there, Nat.zero_add, overlap_eq_count]
  rfl

/-! ### The columns of a whole strip -/

/-- The values of a segment that reaches neither a received column nor the end of the strip. -/
theorem takeColumns_fresh (m : ZoneMap) {b : Buffer} {i : Nat} {vals : List Nat} (fits : i + vals.length ≤ b.length)
    (columns : b.received.length = b.length) (fresh : ∀ k, i ≤ k → b.received.getD k false = false) :
    (takeColumns m b i vals).acc.length = b.acc.length
    ∧ (∀ z, z < b.acc.length → (takeColumns m b i vals).acc.getD z 0 = b.acc.getD z 0
        + ((List.range vals.length).map fun k => min (vals.getD k 0) 1000 * overlap m (b.column (i + k)) z).sum)
    ∧ (takeColumns m b i vals).receivedCount = (incHeld Config.countMax)^[vals.length] b.receivedCount := by
  induction vals generalizing b i with
  | nil => exact ⟨rfl, fun z _ => rfl, rfl⟩
  | cons v vals ih =>
    rw [List.length_cons] at fits
    have inside : i < b.length := by omega
    have here : i < b.received.length := columns ▸ inside
    obtain ⟨-, -, length, order⟩ := takeColumn_fixed m b i v
    have taken := takeColumn_taken m v inside (fresh i (Nat.le_refl i))
    obtain ⟨accs, sums, count⟩ := ih (b := takeColumn m b i v) (i := i + 1) (by rw [length]; omega)
      (by rw [length, taken]; exact (List.length_set ..).trans columns) fun k later => by
        rw [taken]
        exact (getD_set_true here k).trans (by rw [if_neg (by omega), fresh k (by omega)])
    have acc : (takeColumn m b i v).acc = integrateFrom m (b.column i) (min v 1000) 0 b.acc := by rw [taken]
    have same : (takeColumn m b i v).acc.length = b.acc.length := by rw [acc, integrateFrom_length]
    refine ⟨accs.trans same, fun z there => ?_, ?_⟩
    · rw [takeColumns, sums z (same ▸ there), acc, integrateFrom_getD _ _ _ _ _ there, List.length_cons, List.range_succ_eq_map,
        List.map_cons, List.sum_cons, List.map_map, Nat.zero_add, Nat.add_assoc]
      congr 2
      refine congrArg List.sum (List.map_congr_left fun k _ => ?_)
      rw [Buffer.column_congr order length, Nat.add_right_comm, Nat.add_assoc]
      rfl
    · rw [takeColumns, count, taken]
      rfl

/-- Settles O33: each value falls on one column in either order, and the sums over the columns are the same. -/
theorem scanOrdersGiveTheSameCoverage : Obligations.ScanOrdersGiveTheSameCoverage := by
  unfold Obligations.ScanOrdersGiveTheSameCoverage
  intro m j u vals
  dsimp only
  have strip : ∀ order, ∀ k, (Buffer.fresh j u vals.length order m.zones).received.getD k false = false := fun order k => by
    simp [Buffer.fresh]
  obtain ⟨length, sums, count⟩ := takeColumns_fresh m (b := .fresh j u vals.length .ascending m.zones) (i := 0) (vals := vals)
    (by simp [Buffer.fresh]) List.length_replicate fun k _ => strip _ k
  obtain ⟨length', sums', count'⟩ := takeColumns_fresh m (b := .fresh j u vals.length .descending m.zones) (i := 0)
    (vals := vals.reverse) (by simp [Buffer.fresh]) List.length_replicate fun k _ => strip _ k
  have accs : (takeColumns m (.fresh j u vals.length .ascending m.zones) 0 vals).acc
      = (takeColumns m (.fresh j u vals.length .descending m.zones) 0 vals.reverse).acc := by
    refine List.ext_getElem (length.trans length'.symm) fun z here there => ?_
    rw [← List.getD_eq_getElem _ 0 here, ← List.getD_eq_getElem _ 0 there, sums z (length ▸ here), sums' z (length' ▸ there),
      List.length_reverse]
    congr 1
    rw [← sum_range_reflect]
    refine congrArg List.sum (List.map_congr_left fun k inside => ?_)
    rw [List.mem_range] at inside
    rw [Nat.zero_add, Nat.zero_add, List.getD_eq_getElem?_getD, List.getD_eq_getElem?_getD, List.getElem?_reverse inside]
    rfl
  refine ⟨accs, by rw [Buffer.coverage, Buffer.coverage, accs], ?_⟩
  rw [count, count', List.length_reverse]
  rfl

end Sys2Proof.Machine
end

section
/-! SUPPORT. Load requests accepted: what the answer carries, what the slot holds, and the lists of a payload (R17, R18, R21, R160). -/

set_option Elab.async false

namespace Sys2Proof.Machine

/-! ### Lists in a payload (R160) -/

theorem u16_append_right (front l : List Byte) (k : Nat) : u16 (front ++ l) (front.length + k) = u16 l k := by
  rw [u16, u16, u8_append_right, Nat.add_assoc, u8_append_right]

theorem u16_flatMap {vals : List Nat} (bounded : ∀ v ∈ vals, v < 65536) {k : Nat} (h : k < vals.length) :
    u16 (vals.flatMap byte2) (2 * k) = vals[k] := by
  induction vals generalizing k with
  | nil => cases h
  | cons v vals ih =>
    obtain ⟨first, others⟩ := List.forall_mem_cons.1 bounded
    cases k with
    | zero => exact byte2_read first
    | succ k =>
      have rest := ih others (Nat.lt_of_succ_lt_succ h)
      rw [List.flatMap_cons, Nat.mul_succ, Nat.add_comm (2 * k)]
      exact (u16_append_right (byte2 v) _ _).trans rest

/-- A list of two-byte values reads back from the payload that carries it. -/
theorem u16s_read (front : List Byte) {vals : List Nat} (bounded : ∀ v ∈ vals, v < 65536) :
    u16s (front ++ vals.flatMap byte2) front.length vals.length = vals := by
  unfold u16s
  refine List.ext_getElem (by simp) fun k here there => ?_
  rw [List.getElem_map, List.getElem_range, u16_append_right, u16_flatMap bounded]

theorem length_flatMap_byte2 (vals : List Nat) : (vals.flatMap byte2).length = 2 * vals.length := by
  induction vals with
  | nil => rfl
  | cons v vals ih =>
    rw [List.flatMap_cons, List.length_append, ih, List.length_cons]
    change 2 + _ = _
    omega

/-! ### Accepted load requests -/

/-- A request whose handler accepts it with the fields of R18, as they are after it, and further fields. -/
theorem takeRequest_load {s : State} {k : RequestKind} {f : Frame} {rest : List Frame} (h : Waits s k f rest)
    {g : List Byte → State → Reply} {j : SlotIdx} {u : TowerIdx} {w : State} {extra : List Byte} {bs : List Block}
    (hg : g f.payload (s.taken rest) = ⟨w, .ok, loadAnswer j u w ++ extra⟩) (frame : OnlyChanges bs (s.taken rest) w)
    (hl : Block.link ∉ bs) :
    Answered s f rest 0 (loadAnswer j u (takeRequest k g s) ++ extra) (takeRequest k g s)
      ∧ OnlyChanges (Block.link :: bs) s (takeRequest k g s) ∧ OnlyChanges [.link] w (takeRequest k g s) := by
  obtain ⟨answered, changes, after⟩ := takeRequest_answered h g (bs := bs) (by rw [hg]; exact frame) hl
  rw [hg] at answered after
  exact ⟨loadAnswer_congr after.jobs j u ▸ answered, changes, after⟩

/-- Of the Job Slots, a job stored with its Readiness Evaluation changes the one slot. -/
theorem readiness_store_jobs (j : SlotIdx) (job : Job) (s : State) :
    (readinessEvaluation j (storeJob j job s)).jobs
      = put s.jobs j (.held ((look s.jobs j).writtenRole.afterEvaluation (job.evaluated s.library)) (job.evaluated s.library)) := by
  rw [storeJob_eq, readinessEvaluation_held (by rw [putJob_look, if_pos rfl])]
  simp [State.putJob]

/-- Where a step leaves the Job Slots of a job stored, with its Readiness Evaluation, in a slot that is not ARMED, it has
written that job. -/
theorem jobWritten_of_stored {s t : State} {j : SlotIdx} {job : Job} (unarmed : (look s.jobs j).inRole .armed = false)
    (jobs : t.jobs = (readinessEvaluation j (storeJob j job s)).jobs) : JobWritten s t j job.label job.towers := by
  rw [readiness_store_jobs, JobSlot.afterEvaluation_of_unarmed unarmed] at jobs
  refine ⟨⟨_, job.evaluated s.library, (congrArg (look · j) jobs).trans ((look_put ..).trans (if_pos rfl)),
    rfl, rfl, Job.evaluated_ready s.library job, fun running => if_pos running, fun stopped => ?_⟩,
    fun i other => by rw [jobs, look_put, if_neg other.symm]⟩
  rw [if_neg (by rw [← State.isRunning, stopped]; decide)]
  exact Job.evaluated_preparedRole s.library job

/-- Where a step leaves the Job Slots of a Readiness Evaluation of a slot that holds a job and is not ARMED. -/
theorem jobWritten_of_evaluation {s t : State} {j : SlotIdx} (unarmed : (look s.jobs j).inRole .armed = false)
    (held : look s.jobs j ≠ .empty) (jobs : t.jobs = (readinessEvaluation j s).jobs) :
    JobWritten s t j (look s.jobs j).job.label (look s.jobs j).job.towers := by
  refine jobWritten_of_stored (job := (look s.jobs j).job) unarmed (jobs.trans ?_)
  rw [readiness_store_jobs]
  cases content : look s.jobs j with
  | empty => exact absurd content held
  | held role job => rw [readinessEvaluation_held content]; rfl

theorem buffersBound_congr {s t : State} (h : t.buffers = s.buffers) : t.buffersBound = s.buffersBound := by
  rw [State.buffersBound, h, ← State.buffersBound]

theorem boundWrite_frame {s : State} {j : SlotIdx} {u : TowerIdx} {r : TowerSettings} {i : Fin 4} {x : Option Buffer} :
    OnlyChanges [.jobs, .buffers] s (readinessEvaluation j (writeRecord j u r (s.putBuffer i x))) :=
  .after (readiness_write_frame _ _ _ _) (.after (putBuffer_frame s i x) (.refl _ s))

theorem boundEvaluation_frame {s : State} {j : SlotIdx} {i : Fin 4} {x : Option Buffer} :
    OnlyChanges [.jobs, .buffers] s (readinessEvaluation j (s.putBuffer i x)) :=
  .after (readinessEvaluation_frame _ _) (.after (putBuffer_frame s i x) (.refl _ s))

/-- A slot with an OPEN strip holds a job. -/
theorem held_of_opened {s : State} {j : SlotIdx} {u : TowerIdx} (opened : (s.record j u).strip = .opened) :
    look s.jobs j ≠ .empty := by
  intro empty
  rw [State.record, empty, show look JobSlot.empty.job.towers u = TowerSettings.default from look_replicate _ u] at opened
  cases opened

/-- The ready indications of the running job after a record of it is written (R20). -/
theorem written_ready {s : State} {j : SlotIdx} (running : s.runningSlot = some j) (u : TowerIdx) (r : TowerSettings) (v : TowerIdx) :
    look (readinessEvaluation j (writeRecord j u r s)).running.ready v
      = towerReady s.library (if u = v then r else s.record j v) := by
  have written := slotWritten_record j u r s
  rw [running_of_runningSlot (written.runningSlot.trans running), readiness_write_jobs, look_put, if_pos rfl]
  change look (Job.evaluated s.library (s.jobWith j u r)).ready v = _
  rw [Job.evaluated_ready, State.jobWith, withRecord_look]

/-- What a Pass Cause leaves of the passes (table of R54). -/
theorem passCause_pass (u : TowerIdx) (s : State) (v : TowerIdx) : (passCause u s).pass v
    = if u = v then (s.pass u).caused (look s.running.ready u) (s.tower u).mean? else s.pass v := by
  unfold passCause TowerPass.caused
  cases state : (s.pass u).state with
  | active =>
    simp only [putPass_pass, state, if_true]
  | none =>
    simp only [reduceCtorEq, if_false]
    split
    · exact putPass_pass ..
    · split
      · next here => rw [here]
      · rfl

end Sys2Proof.Machine
end

section
/-! PROOF. Coverage strips (section 3.2): Strip Open, Strip Segment, Strip Close. -/

set_option Elab.async false

namespace Sys2Proof.Machine

/-! ### Strip Open (R36 to R40) -/

/-- The payload of a Strip Open (R160). -/
structure CarriesOpen (p : List Byte) (j : SlotIdx) (u : TowerIdx) (len order : Nat) : Prop where
  length : p.length = 5
  slot : u8 p 0 = j.val
  tower : u8 p 1 = u.val
  columns : u16 p 2 = len
  order : u8 p 4 = order

theorem carriesOpen_of_payload {p : List Byte} {j : SlotIdx} {u : TowerIdx} {len order : Nat} (hl : len < 65536)
    (ho : order < 256) (hp : p = byte1 j.val ++ byte1 u.val ++ byte2 len ++ byte1 order) : CarriesOpen p j u len order := by
  subst hp
  constructor
  case length => rfl
  case slot => exact Nat.mod_eq_of_lt (by omega)
  case tower => exact Nat.mod_eq_of_lt (by omega)
  case columns => exact byte2_read hl
  case order => exact Nat.mod_eq_of_lt ho

theorem buffersBound_eq (s : State) : s.buffersBound = ((List.finRange 4).filter fun i => (look s.buffers i).isSome).length := by
  have listed : s.buffers.toList = (List.finRange 4).map fun i => look s.buffers i := by
    refine List.ext_getElem (by simp) fun i here there => ?_
    simp [look]
  rw [State.buffersBound, listed, List.filter_map, List.length_map]
  rfl

theorem openOk_iff {p : List Byte} {j : SlotIdx} {u : TowerIdx} {len order : Nat} (h : CarriesOpen p j u len order) :
    openOk p = true ↔ 1 ≤ len ∧ len ≤ 2048 ∧ order ≤ 1 := by
  simp [openOk, isFlag, h.columns, h.order, and_assoc]

/-! Strip Open's own checks, case by case. -/

section
variable {p : List Byte} {s : State} {j : SlotIdx} {u : TowerIdx}

theorem openBody_unmapped (map : (s.record j u).zoneMap = none) : openBody p s j u = .refuse .state := by
  simp only [openBody, map]

theorem openBody_full {m : ZoneMap} (map : (s.record j u).zoneMap = some m) (closed : (s.record j u).strip ≠ .opened)
    (full : s.freeBuffer = none) : openBody p s j u = .refuse .noRoom := by
  simp only [openBody, map, if_neg closed, full]

theorem openBody_free {m : ZoneMap} {i : Fin 4} (map : (s.record j u).zoneMap = some m)
    (closed : (s.record j u).strip ≠ .opened) (free : s.freeBuffer = some i) :
    let w := readinessEvaluation j (writeRecord j u { s.record j u with strip := .opened }
      (s.putBuffer i (some (.fresh j u (u16 p 2) (.ofNum (u8 p 4)) m.zones))))
    openBody p s j u = .accept w (byte1 0 ++ byte1 w.buffersBound) := by
  simp only [openBody, map, if_neg closed, free]

theorem openBody_restart {m : ZoneMap} {i : Fin 4} {b : Buffer} (map : (s.record j u).zoneMap = some m)
    (opened : (s.record j u).strip = .opened) (bound : s.bufferOf j u = some (i, b)) :
    let w := readinessEvaluation j (s.putBuffer i (some (.fresh j u (u16 p 2) (.ofNum (u8 p 4)) m.zones)))
    openBody p s j u = .accept w (byte1 1 ++ byte1 w.buffersBound) := by
  simp only [openBody, map, if_pos opened, bound]

end

/-- Settles O30: the checks in their order, then the buffer bound or restarted. -/
theorem stripOpenBindsOrRestartsABuffer : Obligations.StripOpenBindsOrRestartsABuffer := by
  unfold Obligations.StripOpenBindsOrRestartsABuffer
  intro s f rest j u len order waits hl ho payload
  dsimp only
  have carried := carriesOpen_of_payload hl ho payload
  have ok := openOk_iff carried
  have request : stripOpen f.payload (s.taken rest) = loadRequest f.payload (openOk f.payload)
      (byte1 0 ++ byte1 (s.taken rest).buffersBound) (openBody f.payload (s.taken rest)) (s.taken rest) := by
    rw [stripOpen, if_neg (not_not.2 carried.length)]
  have fresh : ∀ m : ZoneMap, Buffer.fresh j u (u16 f.payload 2) (.ofNum (u8 f.payload 4)) m.zones
      = ⟨j, u, len, if order = 0 then .ascending else .descending, List.replicate len false, List.replicate m.zones 0, 0, 0, 0, 0⟩ :=
    fun m => by rw [carried.columns, carried.order]; rfl
  simp only [← buffersBound_eq, List.append_assoc]
  refine ⟨takeRequest .stripOpen stripOpen s, rfl, fun out => ?_, fun fields armed => ?_, fun fields unarmed unmapped => ?_,
    fun fields unarmed mapped closed full => ?_, fun m fields unarmed map closed free => ?_,
    fun m i b fields unarmed map opened held slot tower => ?_⟩
  · exact takeRequest_refused waits (request.trans (loadRequest_out_of_range carried.slot carried.tower
      (Bool.eq_false_iff.2 (mt ok.1 out))))
  · exact takeRequest_refused waits (request.trans (loadRequest_armed carried.slot carried.tower (ok.2 fields) armed))
  · exact takeRequest_refused waits (request.trans (loadRequest_refused carried.slot carried.tower (ok.2 fields)
      (Bool.eq_false_iff.2 unarmed) (openBody_unmapped unmapped)))
  · obtain ⟨m, map⟩ := Option.ne_none_iff_exists'.1 mapped
    have none : (s.taken rest).freeBuffer = none := by
      rw [State.freeBuffer, List.find?_eq_none]
      exact fun i _ => by simpa using full i
    exact takeRequest_refused waits (request.trans (loadRequest_refused carried.slot carried.tower (ok.2 fields)
      (Bool.eq_false_iff.2 unarmed) (openBody_full map closed none)))
  · obtain ⟨k, found⟩ : ∃ k, (s.taken rest).freeBuffer = some k := by
      rw [← Option.isSome_iff_exists, State.freeBuffer, List.find?_isSome]
      obtain ⟨i, empty⟩ := free
      exact ⟨i, List.mem_finRange i, by simpa using empty⟩
    have accepted := request.trans (loadRequest_accepted carried.slot carried.tower (ok.2 fields)
      (Bool.eq_false_iff.2 unarmed) (openBody_free map closed found))
    rw [fresh] at accepted
    obtain ⟨answered, frame, after⟩ := takeRequest_load waits accepted boundWrite_frame (by decide)
    rw [← buffersBound_congr after.buffers] at answered
    refine ⟨answered, frame.mono (by decide), ?_, k, freeBuffer_some found, ?_⟩
    · exact jobWritten_of_readiness_write (s := (s.taken rest).putBuffer k _) (Bool.eq_false_iff.2 unarmed) after.jobs
    · exact after.buffers.trans (readiness_write_frame _ _ _ _).buffers
  · obtain ⟨k, c, bound⟩ : ∃ k c, (s.taken rest).bufferOf j u = some (k, c) := by
      cases search : (s.taken rest).bufferOf j u with
      | none => exact absurd ⟨slot, tower⟩ (bufferOf_none search held)
      | some found => exact ⟨found.1, found.2, rfl⟩
    have accepted := request.trans (loadRequest_accepted carried.slot carried.tower (ok.2 fields)
      (Bool.eq_false_iff.2 unarmed) (openBody_restart map opened bound))
    rw [fresh] at accepted
    obtain ⟨answered, frame, after⟩ := takeRequest_load waits accepted boundEvaluation_frame (by decide)
    rw [← buffersBound_congr after.buffers] at answered
    obtain ⟨there, rfl, rfl⟩ := bufferOf_some bound
    refine ⟨answered, frame.mono (by decide), ?_, k, c, there, rfl, rfl, ?_⟩
    · exact jobWritten_of_evaluation (s := (s.taken rest).putBuffer k _) (Bool.eq_false_iff.2 unarmed) (held_of_opened opened) after.jobs
    · exact after.buffers.trans (readinessEvaluation_frame _ _).buffers

/-! ### Strip Segment (R41 to R43) -/

/-- The payload of a Strip Segment (R160). -/
structure CarriesSegment (p : List Byte) (j : SlotIdx) (u : TowerIdx) (start : Nat) (vals : List Nat) : Prop where
  length : p.length = 5 + 2 * vals.length
  slot : u8 p 0 = j.val
  tower : u8 p 1 = u.val
  start : u16 p 2 = start
  count : u8 p 4 = vals.length
  values : u16s p 5 vals.length = vals

theorem carriesSegment_of_payload {p : List Byte} {j : SlotIdx} {u : TowerIdx} {start : Nat} {vals : List Nat}
    (hs : start < 65536) (hn : vals.length < 256) (hv : ∀ v ∈ vals, v < 65536)
    (hp : p = byte1 j.val ++ byte1 u.val ++ byte2 start ++ byte1 vals.length ++ vals.flatMap byte2) :
    CarriesSegment p j u start vals := by
  subst hp
  constructor
  case length => rw [List.length_append, length_flatMap_byte2]; rfl
  case slot => exact Nat.mod_eq_of_lt (by omega)
  case tower => exact Nat.mod_eq_of_lt (by omega)
  case start => exact byte2_read hs
  case count => exact Nat.mod_eq_of_lt hn
  case values => exact u16s_read _ hv

/-- The values of a segment one after the other. -/
theorem takeColumns_eq_foldl (m : ZoneMap) (b : Buffer) (i : Nat) (vals : List Nat) : takeColumns m b i vals
    = (List.range vals.length).foldl (fun x k => takeColumn m x (i + k) (vals.getD k 0)) b := by
  induction vals generalizing b i with
  | nil => rfl
  | cons v vals ih =>
    rw [takeColumns, ih, List.length_cons, List.range_succ_eq_map, List.foldl_cons, List.foldl_map]
    simp only [List.getD_cons_succ, Nat.add_right_comm i 1, Nat.add_succ, Nat.add_zero]
    rfl

theorem segmentBody_closed {p : List Byte} {s : State} {j : SlotIdx} {u : TowerIdx} (closed : (s.record j u).strip ≠ .opened) :
    segmentBody p s j u = .refuse .state := by
  simp only [segmentBody, if_neg closed]

theorem segmentBody_open {p : List Byte} {s : State} {j : SlotIdx} {u : TowerIdx} {m : ZoneMap} {i : Fin 4} {b : Buffer}
    (opened : (s.record j u).strip = .opened) (map : (s.record j u).zoneMap = some m) (bound : s.bufferOf j u = some (i, b)) :
    let after := takeColumns m b (u16 p 2) (u16s p 5 (u8 p 4))
    segmentBody p s j u = .accept (readinessEvaluation j (s.putBuffer i (some after))) after.segmentCounts := by
  simp only [segmentBody, if_pos opened, map, bound]

/-- Settles O31: the checks in their order, then the values one by one. -/
theorem stripSegmentIsTakenValueByValue : Obligations.StripSegmentIsTakenValueByValue := by
  unfold Obligations.StripSegmentIsTakenValueByValue
  intro s f rest j u start vals waits hs hn hv payload
  dsimp only
  have carried := carriesSegment_of_payload hs hn hv payload
  have request : 1 ≤ vals.length ∧ vals.length ≤ 96 → stripSegment f.payload (s.taken rest)
      = loadRequest f.payload true [] (segmentBody f.payload (s.taken rest)) (s.taken rest) := fun fields => by
    unfold stripSegment
    dsimp only
    rw [carried.count, carried.length, if_neg (by omega), if_neg (by omega), if_neg (by omega)]
  refine ⟨takeRequest .stripSegment stripSegment s, rfl, fun out => ?_, fun fields armed => ?_, fun fields unarmed closed => ?_,
    fun m i b fields unarmed opened map bound => ?_⟩
  · refine takeRequest_refused waits (code := .range) ?_
    rw [stripSegment, carried.count, carried.length, if_neg (by omega), if_pos (by omega), loadFields_eq carried.slot carried.tower]
    rfl
  · have refused := takeRequest_refused waits ((request fields).trans (loadRequest_armed (s := s.taken rest) carried.slot
      carried.tower rfl armed))
    rwa [List.append_nil] at refused
  · have refused := takeRequest_refused waits ((request fields).trans (loadRequest_refused (s := s.taken rest) carried.slot
      carried.tower rfl (Bool.eq_false_iff.2 unarmed) (segmentBody_closed closed)))
    rwa [List.append_nil] at refused
  · have accepted := (request fields).trans (loadRequest_accepted (s := s.taken rest) carried.slot carried.tower rfl
      (Bool.eq_false_iff.2 unarmed) (segmentBody_open (s := s.taken rest) opened map bound))
    rw [carried.start, carried.count, carried.values, takeColumns_eq_foldl] at accepted
    obtain ⟨answered, frame, after⟩ := takeRequest_load waits accepted boundEvaluation_frame (by decide)
    refine ⟨after.buffers.trans (readinessEvaluation_frame _ _).buffers, ?_, ?_, frame.mono (by decide)⟩
    · simpa only [Buffer.segmentCounts, List.append_assoc] using answered
    · exact jobWritten_of_evaluation (s := (s.taken rest).putBuffer i _) (Bool.eq_false_iff.2 unarmed) (held_of_opened opened) after.jobs

/-! ### Strip Close (R46 to R48) -/

theorem closeBody_closed {s : State} {j : SlotIdx} {u : TowerIdx} (closed : (s.record j u).strip ≠ .opened) :
    closeBody s j u = .refuse .state := by
  simp only [closeBody, if_neg closed]

/-- The record that a Strip Close leaves (R47). -/
def TowerSettings.closed (r : TowerSettings) (coverage : List Nat) : TowerSettings :=
  { r with coverage := some coverage, strip := .closed }

theorem closeBody_open {s : State} {j : SlotIdx} {u : TowerIdx} {m : ZoneMap} {i : Fin 4} {b : Buffer}
    (opened : (s.record j u).strip = .opened) (map : (s.record j u).zoneMap = some m) (bound : s.bufferOf j u = some (i, b)) :
    let w := readinessEvaluation j (writeRecord j u ((s.record j u).closed (b.coverage m)) (s.putBuffer i none))
    closeBody s j u = .accept (if s.isRunning j && (s.record j u).enabled then passCause u w else w) b.closeCounts := by
  unfold closeBody
  dsimp only
  rw [if_pos opened]
  split
  · next m' ib map' bound' =>
    obtain rfl := Option.some.inj (map.symm.trans map')
    obtain rfl := Option.some.inj (bound.symm.trans bound')
    rfl
  · next none => exact absurd bound (none m (i, b) map)

/-- Settles O34: the checks in their order, then the record, the buffer and the Pass Cause. -/
theorem stripCloseMakesTheCoverageArray : Obligations.StripCloseMakesTheCoverageArray := by
  unfold Obligations.StripCloseMakesTheCoverageArray
  intro s f rest j u waits payload
  dsimp only
  have length : f.payload.length = 2 := by rw [payload]; rfl
  have slot : u8 f.payload 0 = j.val := by rw [payload]; exact Nat.mod_eq_of_lt (by omega)
  have tower : u8 f.payload 1 = u.val := by rw [payload]; exact Nat.mod_eq_of_lt (by omega)
  have request : stripClose f.payload (s.taken rest)
      = loadRequest f.payload true [] (closeBody (s.taken rest)) (s.taken rest) := by
    rw [stripClose, if_neg (not_not.2 length)]
  refine ⟨takeRequest .stripClose stripClose s, rfl, fun armed => ?_, fun unarmed closed => ?_,
    fun m i b unarmed opened map bound => ?_⟩
  · have refused := takeRequest_refused waits (request.trans (loadRequest_armed (s := s.taken rest) slot tower rfl armed))
    rwa [List.append_nil] at refused
  · have refused := takeRequest_refused waits (request.trans (loadRequest_refused (s := s.taken rest) slot tower rfl
      (Bool.eq_false_iff.2 unarmed) (closeBody_closed closed)))
    rwa [List.append_nil] at refused
  · have accepted := request.trans (loadRequest_accepted (s := s.taken rest) slot tower rfl (Bool.eq_false_iff.2 unarmed)
      (closeBody_open (s := s.taken rest) opened map bound))
    generalize closed : readinessEvaluation j (writeRecord j u (((s.taken rest).record j u).closed (b.coverage m))
      ((s.taken rest).putBuffer i none)) = w at accepted
    have frame : OnlyChanges [.jobs, .buffers] (s.taken rest) w := by
      rw [← closed]
      exact boundWrite_frame
    have buffers : w.buffers = put s.buffers i none := by
      rw [← closed]
      exact (readiness_write_frame _ _ _ _).buffers
    have written : w.jobs = (readinessEvaluation j (writeRecord j u ((s.record j u).closed (b.coverage m))
        ((s.taken rest).putBuffer i none))).jobs := by rw [← closed]; rfl
    have jobWritten : ∀ t : State, t.jobs = w.jobs → JobWritten s t j (look s.jobs j).job.label
        (s.withRecord j u ((s.record j u).closed (b.coverage m))) := fun t jobs =>
      jobWritten_of_readiness_write (s := (s.taken rest).putBuffer i none) (Bool.eq_false_iff.2 unarmed) (jobs.trans written)
    by_cases caused : ((s.taken rest).isRunning j && ((s.taken rest).record j u).enabled) = true
    · rw [if_pos caused] at accepted
      obtain ⟨running, enabled⟩ := Bool.and_eq_true_iff.1 caused
      have passes := passCause_frame u w
      obtain ⟨answered, changes, after⟩ := takeRequest_load waits (bs := [.jobs, .buffers, .engine]) accepted
        (.after passes (.after frame (.refl _ _))) (by decide)
      refine ⟨after.buffers.trans (passes.buffers.trans buffers), ?_, jobWritten _ (after.jobs.trans passes.jobs), fun off => ?_,
        fun slot _ => ⟨changes.mono (by decide), ?_, ?_, fun v other => ?_⟩⟩
      · simpa only [Buffer.closeCounts, List.append_assoc] using answered
      · obtain off | off := off
        · exact absurd (running.symm.trans off) (by decide)
        · exact absurd (enabled.symm.trans off) (by decide)
      · rw [after.engine, passCause_targets, frame.engine]
        rfl
      · have ready : look w.running.ready u = towerReady s.library ((s.record j u).closed (b.coverage m)) := by
          rw [← closed]
          exact (written_ready (s := (s.taken rest).putBuffer i none) slot u _ u).trans (by rw [if_pos rfl]; rfl)
        have settings : w.tower u = (s.record j u).closed (b.coverage m) := by
          rw [← closed]
          exact ((slotWritten_record j u _ ((s.taken rest).putBuffer i none)).tower_running slot u).trans (if_pos rfl)
        rw [pass_congr after.engine, passCause_pass, if_pos rfl, pass_congr frame.engine, ready, settings]
        simp only [TowerSettings.mean?, TowerSettings.closed, map]
        rfl
      · rw [pass_congr after.engine, passCause_pass, if_neg (Ne.symm other), pass_congr frame.engine]
        rfl
    · rw [if_neg caused] at accepted
      obtain ⟨answered, changes, after⟩ := takeRequest_load waits accepted frame (by decide)
      refine ⟨after.buffers.trans buffers, ?_, jobWritten _ after.jobs, fun _ => changes.mono (by decide),
        fun slot enabled => absurd ?_ caused⟩
      · simpa only [Buffer.closeCounts, List.append_assoc] using answered
      · exact Bool.and_eq_true_iff.2 ⟨isRunning_of_runningSlot slot, enabled⟩

end Sys2Proof.Machine
end

section
/-! SUPPORT. The fields of the read requests' answers, byte by byte (R8, R31, R155, R157, R160). -/

set_option Elab.async false

namespace Sys2Proof.Machine

theorem byte1_flagNum (b : Bool) : byte1 (flagNum b) = [if b then 1 else 0] := by
  cases b <;> rfl

theorem flagNum_le (b : Bool) : flagNum b ≤ 1 := by
  cases b <;> decide

theorem flagNum_eq_one {b : Bool} : flagNum b = 1 ↔ b = true := by
  cases b <;> decide

theorem byte1_toNat (n : Byte) : byte1 n.toNat = [n] := by
  simp [byte1]

theorem labelBytes_eq (label : Option (List Byte)) : labelBytes label = byte1 (label.getD []).length ++ label.getD [] := by
  cases label <;> rfl

theorem opt1_eq (x : Option Nat) : opt1 x = byte1 (x.getD 0xFF) := by
  cases x <;> rfl

theorem held_iff {s : State} : s.held = true ↔ ∃ u, look s.cycle.hold u = true := by
  simp [State.held]

/-! ### Zone Report entries (R155) -/

/-- The numbers of an interval among those below `m`. -/
theorem range_filter_interval (m a b : Nat) :
    (List.range m).filter (fun k => decide (a ≤ k) && decide (k < b)) = List.range' a (min m b - a) := by
  induction m with
  | zero => simp
  | succ m ih =>
    rw [List.range_succ, List.filter_append, ih]
    by_cases inside : a ≤ m ∧ m < b
    · have grown : min (m + 1) b - a = min m b - a + 1 := by omega
      have last : a + (min m b - a) = m := by omega
      rw [grown, List.range'_1_concat, last]
      simp [inside]
    · have same : min (m + 1) b - a = min m b - a := by omega
      rw [same]
      simp only [List.filter_singleton, ← Bool.decide_and, inside, decide_false, cond_false, List.append_nil]

/-- The zones `first` to `first + n - 1`, by their numbers. -/
theorem zoneRun_vals {first n : Nat} (fits : first + n ≤ 48) :
    (zoneRun first n).map Fin.val = List.range' first n := by
  have numbers : allZones.map Fin.val = List.range 48 := List.map_coe_finRange_eq_range
  have filtered := range_filter_interval 48 first (first + n)
  rw [← numbers, List.filter_map] at filtered
  rw [show min 48 (first + n) - first = n by omega] at filtered
  exact filtered

/-- Entry `i` of a report made of entries of one length. -/
theorem getD_flatMap {α β : Type} {f : α → List β} {n : Nat} (length : ∀ a, (f a).length = n) (d : β) {l : List α} {i k : Nat}
    (hi : i < l.length) (hk : k < n) : (l.flatMap f).getD (n * i + k) d = (f l[i]).getD k d := by
  induction l generalizing i with
  | nil => cases hi
  | cons a l ih =>
    rw [List.flatMap_cons]
    cases i with
    | zero =>
      rw [Nat.mul_zero, Nat.zero_add, List.getD_append _ _ _ _ (by rw [length]; exact hk)]
      rfl
    | succ i =>
      rw [List.getD_append_right _ _ _ _ (by rw [length, Nat.mul_succ]; omega), length, Nat.mul_succ,
        show n * i + n + k - n = n * i + k by omega]
      exact ih (Nat.lt_of_succ_lt_succ hi)

theorem length_flatMap_const {α β : Type} {f : α → List β} {n : Nat} (length : ∀ a, (f a).length = n) (l : List α) :
    (l.flatMap f).length = n * l.length := by
  induction l with
  | nil => rfl
  | cons a l ih => rw [List.flatMap_cons, List.length_append, ih, length, List.length_cons, Nat.mul_succ, Nat.add_comm]

theorem twos12_lt (x : Int) : twos12 x < 4096 := by
  unfold twos12
  omega

theorem twos12_cast (x : Int) : (twos12 x : Int) = x % 4096 := by
  unfold twos12
  omega

/-- The two values that three bytes carry: the upper one. -/
theorem pack12_upper {a b : Nat} (ha : a < 4096) (hb : b < 4096) :
    ((pack12 a b).getD 0 0).toNat * 16 + ((pack12 a b).getD 1 0).toNat / 16 = a := by
  change a / 16 % 256 * 16 + (a % 16 * 16 + b / 256) % 256 / 16 = a
  omega

/-- The two values that three bytes carry: the lower one. -/
theorem pack12_lower {b : Nat} (a : Nat) (hb : b < 4096) :
    ((pack12 a b).getD 1 0).toNat % 16 * 256 + ((pack12 a b).getD 2 0).toNat = b := by
  change (a % 16 * 16 + b / 256) % 256 % 16 * 256 + b % 256 = b
  omega

/-- The flags of byte 0 of an entry. -/
theorem flags_read {n a b c d e : Nat} (hn : n < 8) (ha : a ≤ 1) (hb : b ≤ 1) (hc : c ≤ 1) (hd : d ≤ 1) (he : e ≤ 1) :
    let x := (n + 8 * a + 16 * b + 32 * c + 64 * d + 128 * e) % 256
    x % 8 = n ∧ x / 8 % 2 = a ∧ x / 16 % 2 = b ∧ x / 32 % 2 = c ∧ x / 64 % 2 = d ∧ x / 128 = e := by
  dsimp only
  omega

end Sys2Proof.Machine
end

section
/-! PROOF. Reports (R8, R31, R155, R157): Read Status, Read Curve, Read Settings, Read Zone. -/

set_option Elab.async false

namespace Sys2Proof.Machine

/-- Settles O13: the report's fields are the model's, one by one. -/
theorem readStatusReportsTheMoment : Obligations.ReadStatusReportsTheMoment := by
  unfold Obligations.ReadStatusReportsTheMoment
  intro s f rest waits payload
  refine ⟨takeRead .readStatus readStatus s, rfl, (takeRead_answered waits readStatus).2, ?_⟩
  refine takeRead_answered_with waits (code := .ok) ?_
  rw [payload, readStatus, if_neg (by decide)]
  have held : [if ∃ u, look s.cycle.hold u = true then 1 else 0] = byte1 (flagNum s.held) := by
    rw [byte1_flagNum]
    simp only [held_iff]
  rw [held]
  simp only [← byte1_flagNum, State.slotStates, ← List.append_assoc]
  rw [← buffersBound_eq]
  cases armed : s.cycle.armed with
  | none =>
    simp only [State.taken, setLink_cycle, armed]
    rfl
  | some a =>
    simp only [State.taken, setLink_cycle, armed]
    rfl

/-! ### Read Curve (R8) -/

theorem names_iff {job : Job} {c : CurveIdx} : job.names c = true
    ↔ ∃ u, (look job.towers u).keyCurve = some c ∨ (look job.towers u).sweepCurve = some c := by
  simp [Job.names, TowerSettings.names]

theorem namedBy_iff {s : State} {r : Role} {c : CurveIdx} : s.namedBy r c = true ↔ ∃ j job, look s.jobs j = .held r job
    ∧ ∃ u, (look job.towers u).keyCurve = some c ∨ (look job.towers u).sweepCurve = some c := by
  have named : ∀ x : JobSlot, (x.inRole r && x.job.names c) = true ↔ ∃ job, x = .held r job
      ∧ ∃ u, (look job.towers u).keyCurve = some c ∨ (look job.towers u).sweepCurve = some c := fun x => by
    rw [Bool.and_eq_true]
    refine ⟨fun ⟨role, names⟩ => ?_, ?_⟩
    · obtain ⟨job, rfl⟩ := JobSlot.exists_held_of_inRole role
      exact ⟨job, rfl, names_iff.1 names⟩
    · rintro ⟨job, rfl, names⟩
      exact ⟨beq_self_eq_true r, names_iff.2 names⟩
  rw [State.namedBy, Bool.or_eq_true, named, named]
  refine ⟨?_, ?_⟩
  · rintro (there | there)
    · exact ⟨0, there⟩
    · exact ⟨1, there⟩
  · rintro ⟨j, there⟩
    obtain rfl | rfl := slot_zero_or_one j
    · exact .inl there
    · exact .inr there

theorem bit_eq_flagNum {bit : Nat} {b : Bool} {P : Prop} (small : bit < 2) (h : bit = 1 ↔ P) (hb : b = true ↔ P) :
    bit = flagNum b := by
  have same : bit = 1 ↔ b = true := h.trans hb.symm
  cases b with
  | true => exact same.2 rfl
  | false =>
    have off : bit ≠ 1 := fun on => Bool.false_ne_true (same.1 on)
    change bit = 0
    omega

theorem readCurve_named {n : Byte} {c : CurveIdx} (hn : n.toNat = c.val) (s : State) :
    readCurve [n] s = (.ok, [n] ++ slotReport (look s.library c) ++ byte1 (s.protection c)) := by
  have named : curveOf (u8 [n] 0) = some c := by rw [show u8 [n] 0 = c.val from hn, curveOf_val]
  simp only [readCurve, named, ← hn, byte1_toNat]
  rfl

/-- Settles O16: a curve slot's report by its contents, the protection bits by the jobs that name it. -/
theorem readCurveReportsSlotAndProtection : Obligations.ReadCurveReportsSlotAndProtection := by
  unfold Obligations.ReadCurveReportsSlotAndProtection
  intro s f rest n waits payload
  dsimp only
  refine ⟨takeRead .readCurve readCurve s, rfl, (takeRead_answered waits readCurve).2, fun out => ?_,
    fun c hn bit0 bit1 small0 small1 running armed => ?_⟩
  · refine takeRead_answered_with waits (code := .range) ?_
    have unnamed : curveOf (u8 [n] 0) = none := curveOf_eq_none out
    simp only [payload, readCurve, unnamed]
    rfl
  · have answered := takeRead_answered_with waits ((congrArg (readCurve · _) payload).trans (readCurve_named hn (s.taken rest)))
    have bits : bit0 + 2 * bit1 = s.protection c := by
      rw [State.protection, bit_eq_flagNum small0 running namedBy_iff, bit_eq_flagNum small1 armed namedBy_iff]
    rw [bits]
    refine ⟨fun empty => ?_, fun cv loaded => ?_⟩
    · rw [show look (s.taken rest).library c = none from empty] at answered
      exact answered
    · rw [show look (s.taken rest).library c = some cv from loaded] at answered
      obtain ⟨kind, label, vertices⟩ := cv
      simp only [slotReport, List.append_assoc] at answered
      simp only [List.append_assoc]
      cases kind with
      | key => cases label <;> exact answered
      | sweep => cases label <;> exact answered

/-! ### Read Settings (R31) -/

theorem readSettings_named {a b : Byte} {j : SlotIdx} {u : TowerIdx} (ha : a.toNat = j.val) (hb : b.toNat = u.val) (s : State) :
    readSettings [a, b] s = (.ok, byte1 (look s.jobs j).num ++ labelBytes (look s.jobs j).job.label
      ++ byte1 (flagNum (look (look s.jobs j).job.ready u)) ++ (s.record j u).configBytes ++ mapBytes (s.record j u).zoneMap
      ++ byte1 (s.record j u).strip.num ++ byte1 (flagNum (s.record j u).coverage.isSome) ++ (s.record j u).targetBytes) := by
  have slot : slotOf (u8 [a, b] 0) = some j := by rw [show u8 [a, b] 0 = j.val from ha, slotOf_val]
  have tower : towerOf (u8 [a, b] 1) = some u := by rw [show u8 [a, b] 1 = u.val from hb, towerOf_val]
  simp only [readSettings, slot, tower]
  rfl

/-- Settles O17: the record of the slot, that of an EMPTY one the default. -/
theorem readSettingsReportsTheRecord : Obligations.ReadSettingsReportsTheRecord := by
  unfold Obligations.ReadSettingsReportsTheRecord
  intro s f rest a b waits payload
  refine ⟨takeRead .readSettings readSettings s, rfl, (takeRead_answered waits readSettings).2, fun out => ?_,
    fun j u ha hb => ?_⟩
  · refine takeRead_answered_with waits (code := .range) ?_
    have unnamed : slotOf (u8 [a, b] 0) = none ∨ towerOf (u8 [a, b] 1) = none :=
      out.imp (fun slot => slotOf_eq_none slot) (fun tower => dif_neg tower.not_gt)
    rw [payload]
    unfold readSettings
    rw [if_neg (by simp)]
    obtain none | none := unnamed
    · rw [none]
    · rw [none]
      cases slotOf (u8 [a, b] 0) <;> rfl
  · refine ⟨(look s.jobs j).job.label.getD [], look (look s.jobs j).job.ready u, s.record j u, fun empty => ?_,
      fun role job held => ?_, ?_⟩
    · rw [State.record, empty]
      exact ⟨rfl, look_replicate _ u, look_replicate _ u⟩
    · rw [State.record, held]
      exact ⟨rfl, rfl, rfl⟩
    · have answered := takeRead_answered_with waits
        ((congrArg (readSettings · _) payload).trans (readSettings_named ha hb (s.taken rest)))
      rw [show (s.taken rest).record j u = s.record j u from rfl, labelBytes_eq, TowerSettings.configBytes, TowerSettings.targetBytes, opt1_eq, opt1_eq] at answered
      cases map : (s.record j u).zoneMap with
      | none =>
        simp only [map, mapBytes, byte1_flagNum, List.append_assoc] at answered
        simp only [List.append_assoc]
        exact answered
      | some m =>
        simp only [map, mapBytes, byte1_flagNum, List.append_assoc] at answered
        simp only [List.append_assoc]
        exact answered

/-! ### Read Zone (R155) -/

theorem flagNum_isSome_iff {α : Type} {x : Option α} : flagNum x.isSome = 1 ↔ x ≠ none := by
  rw [flagNum_eq_one, Option.isSome_iff_ne_none]

theorem zoneReport_flags (s : State) (j : SlotIdx) (u : TowerIdx) (z : ZoneIdx) :
    let x := ((s.zoneReport j u z).getD 0 0).toNat
    x % 8 = (s.zone u z).state.num ∧ (x / 8 % 2 = 1 ↔ (s.zone u z).state = .faulted)
      ∧ (x / 16 % 2 = 1 ↔ look s.trim.saturated u = true) ∧ (x / 32 % 2 = 1 ↔ (s.zone u z).actual ≠ none)
      ∧ (x / 64 % 2 = 1 ↔ s.targetOf u z ≠ none) ∧ (x / 128 = 1 ↔ (s.record j u).coverageAt z ≠ none) := by
  have small : (s.zone u z).state.num < 8 := by cases (s.zone u z).state <;> decide
  obtain ⟨state, faulted, saturated, actual, target, coverage⟩ := flags_read small
    (flagNum_le ((s.zone u z).state == .faulted)) (flagNum_le (look s.trim.saturated u)) (flagNum_le (s.zone u z).actual.isSome)
    (flagNum_le (s.targetOf u z).isSome) (flagNum_le ((s.record j u).coverageAt z).isSome)
  refine ⟨state, ?_, ?_, ?_, ?_, ?_⟩
  · exact (Eq.congr_left faulted).trans (flagNum_eq_one.trans beq_iff_eq)
  · exact (Eq.congr_left saturated).trans flagNum_eq_one
  · exact (Eq.congr_left actual).trans flagNum_isSome_iff
  · exact (Eq.congr_left target).trans flagNum_isSome_iff
  · exact (Eq.congr_left coverage).trans flagNum_isSome_iff

theorem zoneReport_presence (s : State) (j : SlotIdx) (u : TowerIdx) (z : ZoneIdx) :
    let x := ((s.zoneReport j u z).getD 1 0).toNat
    (x % 2 = 1 ↔ (s.record j u).offsetAt z ≠ none) ∧ (x / 2 = 1 ↔ (s.trimOf u z).lastAverage ≠ none) ∧ x / 4 = 0 := by
  have read : ∀ a b : Nat, a ≤ 1 → b ≤ 1 → (a + 2 * b) % 256 % 2 = a ∧ (a + 2 * b) % 256 / 2 = b ∧ (a + 2 * b) % 256 / 4 = 0 := by
    omega
  obtain ⟨offset, average, none⟩ := read _ _ (flagNum_le ((s.record j u).offsetAt z).isSome)
    (flagNum_le (s.trimOf u z).lastAverage.isSome)
  exact ⟨(Eq.congr_left offset).trans flagNum_isSome_iff, (Eq.congr_left average).trans flagNum_isSome_iff, none⟩

/-- The two twelve-bit values that an entry carries from byte `k` on. -/
def upperAt (l : List Byte) (k : Nat) : Nat := (l.getD k 0).toNat * 16 + (l.getD (k + 1) 0).toNat / 16

def lowerAt (l : List Byte) (k : Nat) : Nat := (l.getD (k + 1) 0).toNat % 16 * 256 + (l.getD (k + 2) 0).toNat

theorem zoneReport_coverage (s : State) (j : SlotIdx) (u : TowerIdx) (z : ZoneIdx) :
    ((∀ c, (s.record j u).coverageAt z = some c → c < 4096 → upperAt (s.zoneReport j u z) 2 = c)
        ∧ ((s.record j u).coverageAt z = none → upperAt (s.zoneReport j u z) 2 = 0))
      ∧ (∀ o, (s.record j u).offsetAt z = some o → (lowerAt (s.zoneReport j u z) 2 : Int) = o % 4096)
      ∧ ((s.record j u).offsetAt z = none → lowerAt (s.zoneReport j u z) 2 = 0) := by
  have upper : ((s.record j u).coverageAt z).getD 0 < 4096 →
      upperAt (s.zoneReport j u z) 2 = ((s.record j u).coverageAt z).getD 0 := fun h => pack12_upper h (twos12_lt _)
  have lower : lowerAt (s.zoneReport j u z) 2 = twos12 (((s.record j u).offsetAt z).getD 0) := pack12_lower _ (twos12_lt _)
  refine ⟨⟨fun c hc small => ?_, fun absent => ?_⟩, fun o ho => ?_, fun absent => ?_⟩
  · rw [hc] at upper
    exact upper small
  · rw [absent] at upper
    exact upper (by decide)
  · rw [lower, ho, twos12_cast]
    rfl
  · rw [lower, absent]
    rfl

theorem zoneReport_targets (s : State) (j : SlotIdx) (u : TowerIdx) (z : ZoneIdx) :
    (∀ g, s.targetOf u z = some g → g.e < 4096 → g.b < 4096 →
        upperAt (s.zoneReport j u z) 5 = g.e ∧ lowerAt (s.zoneReport j u z) 5 = g.b)
      ∧ (s.targetOf u z = none → upperAt (s.zoneReport j u z) 5 = 0 ∧ lowerAt (s.zoneReport j u z) 5 = 0
        ∧ lowerAt (s.zoneReport j u z) 8 = 0)
      ∧ ((∀ g, s.targetOf u z = some g → g.k < 4096) →
        (upperAt (s.zoneReport j u z) 8 : Int) = (s.trimOf u z).trim % 4096
          ∧ ∀ g, s.targetOf u z = some g → lowerAt (s.zoneReport j u z) 8 = g.k) := by
  have stages (g : Target) (hg : (s.targetOf u z).getD ⟨0, 0, 0⟩ = g) (he : g.e < 4096) (hb : g.b < 4096) :
      upperAt (s.zoneReport j u z) 5 = g.e ∧ lowerAt (s.zoneReport j u z) 5 = g.b := by
    subst hg
    exact ⟨pack12_upper he hb, pack12_lower _ hb⟩
  have keys (g : Target) (hg : (s.targetOf u z).getD ⟨0, 0, 0⟩ = g) (hk : g.k < 4096) :
      upperAt (s.zoneReport j u z) 8 = twos12 (s.trimOf u z).trim ∧ lowerAt (s.zoneReport j u z) 8 = g.k := by
    subst hg
    exact ⟨pack12_upper (twos12_lt _) hk, pack12_lower _ hk⟩
  cases target : s.targetOf u z with
  | none =>
    rw [target] at stages keys
    obtain ⟨trim, absent⟩ := keys _ rfl (by decide)
    refine ⟨nofun, fun _ => ?_, fun _ => ⟨?_, nofun⟩⟩
    · obtain ⟨e, b⟩ := stages _ rfl (by decide) (by decide)
      exact ⟨e, b, absent⟩
    · rw [trim, twos12_cast]
  | some g =>
    rw [target] at stages keys
    refine ⟨fun _ same he hb => ?_, nofun, fun small => ?_⟩
    · obtain rfl := Option.some.inj same
      exact stages g rfl he hb
    · obtain ⟨trim, key⟩ := keys g rfl (small g rfl)
      refine ⟨by rw [trim, twos12_cast], fun _ same => ?_⟩
      obtain rfl := Option.some.inj same
      exact key

theorem zoneReport_position (s : State) (j : SlotIdx) (u : TowerIdx) (z : ZoneIdx)
    (small : ∀ y, (s.trimOf u z).lastAverage = some y → y < 4096) :
    (∀ x, (s.zone u z).actual = some x → x < 4096 → upperAt (s.zoneReport j u z) 11 = x)
      ∧ ((s.zone u z).actual = none → upperAt (s.zoneReport j u z) 11 = 0)
      ∧ (∀ y, (s.trimOf u z).lastAverage = some y → lowerAt (s.zoneReport j u z) 11 = y)
      ∧ ((s.trimOf u z).lastAverage = none → lowerAt (s.zoneReport j u z) 11 = 0) := by
  have fits : (s.trimOf u z).lastAverage.getD 0 < 4096 := by
    cases average : (s.trimOf u z).lastAverage with
    | none => decide
    | some y => exact small y average
  have upper : (s.zone u z).actual.getD 0 < 4096 → upperAt (s.zoneReport j u z) 11 = (s.zone u z).actual.getD 0 :=
    fun h => pack12_upper h fits
  have lower : lowerAt (s.zoneReport j u z) 11 = (s.trimOf u z).lastAverage.getD 0 := pack12_lower _ fits
  refine ⟨fun x hx fit => ?_, fun absent => ?_, fun y hy => ?_, fun absent => ?_⟩
  · rw [hx] at upper
    exact upper fit
  · rw [absent] at upper
    exact upper (by decide)
  · rw [lower, hy]
    rfl
  · rw [lower, absent]
    rfl

theorem readZone_named {p : List Byte} {a b first n : Byte} {j : SlotIdx} {u : TowerIdx} (payload : p = [a, b, first, n])
    (ha : a.toNat = j.val) (hb : b.toNat = u.val) (some : 1 ≤ n.toNat) (few : n.toNat ≤ 16) (fits : first.toNat + n.toNat ≤ 48)
    (s : State) : readZone p s
      = (.ok, [a, b, first, n] ++ (zoneRun first.toNat n.toNat).flatMap fun z => s.zoneReport j u z) := by
  have slot : slotOf (u8 [a, b, first, n] 0) = Option.some j := by
    rw [show u8 [a, b, first, n] 0 = j.val from ha, slotOf_val]
  have tower : towerOf (u8 [a, b, first, n] 1) = Option.some u := by
    rw [show u8 [a, b, first, n] 1 = u.val from hb, towerOf_val]
  have inRange : u8 [a, b, first, n] 2 ≤ 47 ∧ 1 ≤ u8 [a, b, first, n] 3 ∧ u8 [a, b, first, n] 3 ≤ 16
      ∧ u8 [a, b, first, n] 2 + u8 [a, b, first, n] 3 ≤ 48 := by
    change first.toNat ≤ 47 ∧ 1 ≤ n.toNat ∧ n.toNat ≤ 16 ∧ first.toNat + n.toNat ≤ 48
    omega
  rw [payload]
  unfold readZone
  rw [if_neg (by simp)]
  simp only [slot, tower, if_pos inRange, ← ha, ← hb, byte1_toNat]
  change (ResultCode.ok, [a] ++ [b] ++ byte1 first.toNat ++ byte1 n.toNat ++ _) = _
  rw [byte1_toNat, byte1_toNat]
  rfl

theorem readZone_refused {p : List Byte} {a b first n : Byte} (payload : p = [a, b, first, n])
    (out : 2 ≤ a.toNat ∨ 12 ≤ b.toNat ∨ 47 < first.toNat ∨ n.toNat = 0 ∨ 16 < n.toNat ∨ 48 < first.toNat + n.toNat) (s : State) :
    readZone p s = (.range, []) := by
  have cases : slotOf (u8 [a, b, first, n] 0) = none ∨ towerOf (u8 [a, b, first, n] 1) = none
      ∨ ¬(u8 [a, b, first, n] 2 ≤ 47 ∧ 1 ≤ u8 [a, b, first, n] 3 ∧ u8 [a, b, first, n] 3 ≤ 16
        ∧ u8 [a, b, first, n] 2 + u8 [a, b, first, n] 3 ≤ 48) := by
    refine out.imp slotOf_eq_none (Or.imp (fun tower => dif_neg tower.not_gt) fun run => ?_)
    change ¬(first.toNat ≤ 47 ∧ 1 ≤ n.toNat ∧ n.toNat ≤ 16 ∧ first.toNat + n.toNat ≤ 48)
    omega
  rw [payload]
  unfold readZone
  rw [if_neg (by simp)]
  obtain none | none | run := cases
  · rw [none]
  · rw [none]
    cases slotOf (u8 [a, b, first, n] 0) <;> rfl
  · cases slotOf (u8 [a, b, first, n] 0) with
    | none => rfl
    | some j =>
      cases towerOf (u8 [a, b, first, n] 1) with
      | none => rfl
      | some u => exact if_neg run

/-- Settles O15: entry `i` of the report is the zone's, and its packed fields are read back pair by pair. -/
theorem readZoneEntriesReadBack : Obligations.ReadZoneEntriesReadBack := by
  unfold Obligations.ReadZoneEntriesReadBack
  intro s f rest a b first n waits payload
  refine ⟨takeRead .readZone readZone s, rfl, (takeRead_answered waits readZone).2,
    fun out => takeRead_answered_with waits (readZone_refused payload out _), fun j u ha hb least most fits => ?_⟩
  have vals := zoneRun_vals fits
  have count : (zoneRun first.toNat n.toNat).length = n.toNat := by
    simpa using congrArg List.length vals
  refine ⟨_, takeRead_answered_with waits (readZone_named payload ha hb least most fits (s.taken rest)), ?_, fun z i hi hz => ?_⟩
  · rw [length_flatMap_const (n := 14) fun z => rfl, count]
  · have inRun : i < (zoneRun first.toNat n.toNat).length := by omega
    have entry : (zoneRun first.toNat n.toNat)[i] = z := by
      apply Fin.ext
      have read : ((zoneRun first.toNat n.toNat).map Fin.val)[i]'(by simpa using inRun) = first.toNat + i := by
        simp only [vals, List.getElem_range', Nat.one_mul]
      rw [List.getElem_map] at read
      rw [read, hz]
    intro byteAt upper lower coverage offset
    have read : ∀ k < 14, byteAt k = ((s.zoneReport j u z).getD k 0).toNat := fun k hk => by
      have := getD_flatMap (f := fun z => s.zoneReport j u z) (n := 14) (fun z => rfl) 0 inRun hk
      rw [entry] at this
      exact congrArg BitVec.toNat this
    have upperRead : ∀ k < 13, upper k = upperAt (s.zoneReport j u z) k := fun k hk => by
      change byteAt k * 16 + byteAt (k + 1) / 16 = _
      rw [read k (by omega), read (k + 1) (by omega)]
      rfl
    have lowerRead : ∀ k < 12, lower k = lowerAt (s.zoneReport j u z) k := fun k hk => by
      change byteAt (k + 1) % 16 * 256 + byteAt (k + 2) = _
      rw [read (k + 1) (by omega), read (k + 2) (by omega)]
      rfl
    rw [read 0 (by decide), read 1 (by decide), upperRead 2 (by decide), lowerRead 2 (by decide), upperRead 5 (by decide),
      lowerRead 5 (by decide), upperRead 8 (by decide), lowerRead 8 (by decide), upperRead 11 (by decide),
      lowerRead 11 (by decide)]
    obtain ⟨state, faulted, saturated, actual, target, covered⟩ := zoneReport_flags s j u z
    obtain ⟨offsetBit, averageBit, none⟩ := zoneReport_presence s j u z
    obtain ⟨⟨coverSome, coverNone⟩, offsetSome, offsetNone⟩ := zoneReport_coverage s j u z
    obtain ⟨stages, absent, keys⟩ := zoneReport_targets s j u z
    exact ⟨state, faulted, saturated, actual, target, covered, offsetBit, averageBit, none, coverSome, coverNone, offsetSome,
      offsetNone, stages, absent, keys, zoneReport_position s j u z⟩

end Sys2Proof.Machine
end

section
/-! SUPPORT. Set Job Label (R28), Load Curve (R3, R6, R7) and Configure Tower (R22): the payloads and the cases. -/

set_option Elab.async false

namespace Sys2Proof.Machine

theorem labelOf_eq (label : List Byte) : labelOf label = if label = [] then none else some label := by
  cases label <;> rfl

theorem labelOk_iff {label : List Byte} : labelOk label = true ↔ ∀ b ∈ label, 0x20 ≤ b.toNat ∧ b.toNat ≤ 0x7E := by
  simp [labelOk]

/-- A request whose handler accepts it and answers, behind other fields, with both slot states as they are after it. -/
theorem takeRequest_fieldsThenStates {s t : State} {k : RequestKind} {f : Frame} {rest : List Frame} (h : Waits s k f rest)
    {g : List Byte → State → Reply} {bs : List Block} {front : List Byte}
    (hg : g f.payload (s.taken rest) = ⟨t, .ok, front ++ t.slotStates⟩) (frame : OnlyChanges bs (s.taken rest) t)
    (hl : Block.link ∉ bs := by decide) :
    Answered s f rest 0 (front ++ (takeRequest k g s).slotStates) (takeRequest k g s)
      ∧ OnlyChanges (.link :: bs) s (takeRequest k g s) ∧ OnlyChanges [.link] t (takeRequest k g s) := by
  obtain ⟨answered, changed, after⟩ := takeRequest_answered h g (by rw [hg]; exact frame) hl
  rw [hg] at answered after
  exact ⟨slotStates_congr after.jobs ▸ answered, changed, after⟩

/-! ### Set Job Label -/

section
variable {p : List Byte} {a : Byte} {label : List Byte} {j : SlotIdx} {s : State}

theorem labelPayload_length (hp : p = [a] ++ byte1 label.length ++ label) : p.length = 2 + label.length := by
  subst hp
  simp [byte1]
  omega

theorem labelPayload_count (hp : p = [a] ++ byte1 label.length ++ label) (small : label.length < 256) :
    u8 p 1 = label.length := by
  subst hp
  exact Nat.mod_eq_of_lt small

theorem jobFields_eq (slot : p.head? = some a) (s : State) : jobFields p s = [a] ++ s.slotStates := by
  obtain _ | ⟨b, l⟩ := p
  · cases slot
  · obtain rfl := Option.some.inj slot
    exact congrArg (· ++ s.slotStates) (byte1_toNat b)

theorem setJobLabel_out_of_range (hp : p = [a] ++ byte1 label.length ++ label) (small : label.length < 256)
    (out : 2 ≤ a.toNat ∨ 16 < label.length ∨ ∃ b ∈ label, b.toNat < 0x20 ∨ 0x7E < b.toNat) :
    setJobLabel p s = ⟨s, .range, [a] ++ s.slotStates⟩ := by
  have count := labelPayload_count hp small
  have length := labelPayload_length hp
  have slot : u8 p 0 = a.toNat := by rw [hp]; rfl
  have rest : p.drop 2 = label := by rw [hp]; rfl
  rw [← jobFields_eq (p := p) (a := a) (by rw [hp]; rfl)]
  unfold setJobLabel
  rw [if_neg (by omega), count]
  by_cases long : 16 < label.length
  · rw [if_pos long]
  · rw [if_neg long, if_neg (by omega), slot, rest]
    by_cases far : 2 ≤ a.toNat
    · rw [slotOf_eq_none far]
    · have bad : ¬ labelOk label = true := by
        obtain ⟨b, hb, range⟩ := (out.resolve_left far).resolve_left long
        intro ok
        have := labelOk_iff.1 ok b hb
        omega
      cases slotOf a.toNat with
      | none => rfl
      | some j => exact if_neg bad

theorem setJobLabel_in_range (hp : p = [a] ++ byte1 label.length ++ label) (ha : a.toNat = j.val) (few : label.length ≤ 16)
    (chars : ∀ b ∈ label, 0x20 ≤ b.toNat ∧ b.toNat ≤ 0x7E) :
    setJobLabel p s = if (look s.jobs j).inRole .armed then ⟨s, .busy, [a] ++ s.slotStates⟩
      else
        let t := readinessEvaluation j (storeJob j { (look s.jobs j).job with label := labelOf label } s)
        ⟨t, .ok, [a] ++ t.slotStates⟩ := by
  have count := labelPayload_count hp (by omega)
  have length := labelPayload_length hp
  have slot : u8 p 0 = j.val := by rw [hp]; exact ha
  have rest : p.drop 2 = label := by rw [hp]; rfl
  have fields (t : State) : jobFields p t = [a] ++ t.slotStates := jobFields_eq (by rw [hp]; rfl) t
  unfold setJobLabel
  rw [if_neg (by omega), if_neg (by omega), if_neg (by omega), slot, rest, slotOf_val]
  rw [← fields]
  simp only [labelOk_iff.2 chars, if_true, fields]
end

/-! ### Load Curve -/

/-- The payload of a Load Curve with this slot, kind, label and vertices (R160). -/
def curvePayload (n kind : Byte) (label : List Byte) (vertices : List (Nat × Nat)) : List Byte :=
  [n, kind] ++ byte1 label.length ++ label ++ byte1 vertices.length ++ vertices.flatMap fun v => byte2 v.1 ++ byte2 v.2

theorem ofNum_num (k : CurveKind) : CurveKind.ofNum? k.num = some k := by
  cases k <;> rfl

theorem num_of_ofNum {n : Nat} {k : CurveKind} (h : CurveKind.ofNum? n = some k) : k.num = n := by
  match n, h with
  | 0, h =>
    cases h
    rfl
  | 1, h =>
    cases h
    rfl

theorem Curve.counts_of_valid {c : Curve} (valid : c.valid = true) :
    (c.label.getD []).length ≤ 8 ∧ 2 ≤ c.vertices.length ∧ c.vertices.length ≤ 9 := by
  simp only [Curve.valid, Bool.and_eq_true, decide_eq_true_eq] at valid
  obtain ⟨⟨⟨⟨⟨label, least, most⟩, -⟩, -⟩, -⟩, -⟩ := valid
  refine ⟨?_, least, most⟩
  cases carried : c.label with
  | none => exact Nat.zero_le 8
  | some l =>
    rw [carried] at label
    simp only [Bool.and_eq_true, decide_eq_true_eq] at label
    exact label.1.2

section
variable {p : List Byte} {n kind : Byte} {label : List Byte} {vertices : List (Nat × Nat)} {s : State}

theorem curvePayload_length : (curvePayload n kind label vertices).length = 4 + label.length + 4 * vertices.length := by
  have pairs := length_flatMap_const (f := fun v : Nat × Nat => byte2 v.1 ++ byte2 v.2) (n := 4) (fun _ => rfl) vertices
  simp only [curvePayload, List.length_append, pairs, byte1, List.length_cons, List.length_nil]
  omega

theorem curvePayload_vertexCount (few : vertices.length < 256) :
    u8 (curvePayload n kind label vertices) (3 + label.length) = vertices.length := by
  have read := u8_append_right ([n, kind] ++ byte1 label.length ++ label)
    (byte1 vertices.length ++ vertices.flatMap fun v => byte2 v.1 ++ byte2 v.2) 0
  rw [show ([n, kind] ++ byte1 label.length ++ label).length = 3 + label.length by simp [byte1]; omega] at read
  rw [curvePayload, List.append_assoc]
  exact read.trans (Nat.mod_eq_of_lt few)

theorem vertexList_read (front : List Byte) (bounded : ∀ v ∈ vertices, v.1 < 65536 ∧ v.2 < 65536) :
    vertexList (front ++ vertices.flatMap fun v => byte2 v.1 ++ byte2 v.2) front.length vertices.length = vertices := by
  refine List.ext_getElem (by simp [vertexList]) fun i hi hv => ?_
  obtain ⟨x, y⟩ := bounded _ (List.getElem_mem hv)
  have read (k : Nat) (hk : k < 4) : u8 (vertices.flatMap fun v => byte2 v.1 ++ byte2 v.2) (4 * i + k)
      = u8 (byte2 vertices[i].1 ++ byte2 vertices[i].2) k :=
    congrArg BitVec.toNat (getD_flatMap (f := fun v : Nat × Nat => byte2 v.1 ++ byte2 v.2) (fun _ => rfl) 0 hv hk)
  simp only [vertexList, List.getElem_map, List.getElem_range, Nat.add_assoc, u16_append_right]
  refine Prod.ext ?_ ?_
  · rw [u16, read 1 (by decide), ← Nat.add_zero (4 * i), read 0 (by decide)]
    exact byte2_read x
  · have pair : u16 (vertices.flatMap fun v => byte2 v.1 ++ byte2 v.2) (4 * i + 2)
        = u8 (byte2 vertices[i].1 ++ byte2 vertices[i].2) 2 * 256 + u8 (byte2 vertices[i].1 ++ byte2 vertices[i].2) 3 :=
      congrArg₂ (· * 256 + ·) (read 2 (by decide)) (read 3 (by decide))
    exact pair.trans (byte2_read y)

theorem curvePayload_curve (bounded : ∀ v ∈ vertices, v.1 < 65536 ∧ v.2 < 65536) (k : CurveKind) :
    carriedCurve (curvePayload n kind label vertices) label.length vertices.length k
      = ⟨k, if label = [] then none else some label, vertices⟩ := by
  have front : ([n, kind] ++ byte1 label.length ++ label ++ byte1 vertices.length).length = 4 + label.length := by
    simp [byte1]
    omega
  have read := vertexList_read ([n, kind] ++ byte1 label.length ++ label ++ byte1 vertices.length) bounded
  rw [front] at read
  have carried : ((curvePayload n kind label vertices).drop 3).take label.length = label := by
    rw [curvePayload, List.append_assoc, List.append_assoc]
    exact List.take_left
  rw [carriedCurve, carried, labelOf_eq]
  exact congrArg _ read

theorem curveFields_eq (slot : p.head? = some n) (s : State) : curveFields p s = [n] ++ s.slotStates := jobFields_eq slot s

/-- A Load Curve whose counts are in range, by the checks that are left. -/
theorem loadCurve_counted (short : label.length ≤ 8) (least : 2 ≤ vertices.length) (most : vertices.length ≤ 9)
    (hp : p = curvePayload n kind label vertices) (bounded : ∀ v ∈ vertices, v.1 < 65536 ∧ v.2 < 65536) :
    loadCurve p s = match curveOf n.toNat, CurveKind.ofNum? kind.toNat with
      | some c, some k =>
        if (⟨k, if label = [] then none else some label, vertices⟩ : Curve).valid then
          if s.inUse c then ⟨s, .inUse, [n] ++ s.slotStates⟩
          else
            let t := changeLibrary c (some ⟨k, if label = [] then none else some label, vertices⟩) s
            ⟨t, .ok, [n] ++ t.slotStates⟩
        else ⟨s, .range, [n] ++ s.slotStates⟩
      | _, _ => ⟨s, .range, [n] ++ s.slotStates⟩ := by
  have fields (t : State) : curveFields p t = [n] ++ t.slotStates := curveFields_eq (by rw [hp]; rfl) t
  have length := (congrArg List.length hp).trans curvePayload_length
  have labelCount : u8 p 2 = label.length := by
    rw [hp]
    exact Nat.mod_eq_of_lt (by omega)
  have vertexCount : u8 p (3 + label.length) = vertices.length := hp ▸ curvePayload_vertexCount (by omega)
  unfold loadCurve
  simp only [labelCount, vertexCount, fields]
  rw [if_neg (by omega), if_neg (by omega), if_neg (by omega), if_neg (by omega), if_neg (by omega)]
  simp only [hp, curvePayload_curve bounded]
  rfl

theorem loadCurve_out_of_range (hp : p = curvePayload n kind label vertices) (short : label.length < 256)
    (few : vertices.length < 256) (bounded : ∀ v ∈ vertices, v.1 < 65536 ∧ v.2 < 65536)
    (out : 32 ≤ n.toNat ∨ 2 ≤ kind.toNat ∨ ∀ k : CurveKind, k.num = kind.toNat →
      (⟨k, if label = [] then none else some label, vertices⟩ : Curve).valid = false) :
    loadCurve p s = ⟨s, .range, [n] ++ s.slotStates⟩ := by
  by_cases counted : label.length ≤ 8 ∧ 2 ≤ vertices.length ∧ vertices.length ≤ 9
  · obtain ⟨label8, least, most⟩ := counted
    rw [loadCurve_counted label8 least most hp bounded]
    cases slot : curveOf n.toNat with
    | none => rfl
    | some c =>
      cases known : CurveKind.ofNum? kind.toNat with
      | none => rfl
      | some k =>
        have near : ¬ 32 ≤ n.toNat := fun far => by
          rw [curveOf_eq_none far] at slot
          cases slot
        have num := num_of_ofNum known
        have small : ¬ 2 ≤ kind.toNat := by
          rw [← num]
          cases k <;> decide
        exact if_neg (Bool.not_eq_true _ ▸ (out.resolve_left near).resolve_left small k num)
  · have fields : curveFields p s = [n] ++ s.slotStates := curveFields_eq (by rw [hp]; rfl) s
    have length := (congrArg List.length hp).trans curvePayload_length
    have labelCount : u8 p 2 = label.length := by
      rw [hp]
      exact Nat.mod_eq_of_lt short
    have vertexCount : u8 p (3 + label.length) = vertices.length := hp ▸ curvePayload_vertexCount few
    unfold loadCurve
    simp only [labelCount, vertexCount, fields]
    rw [if_neg (by omega)]
    by_cases long : 8 < label.length
    · rw [if_pos long]
    · rw [if_neg long, if_neg (by omega), if_pos (by omega)]
end

/-! ### Configure Tower -/

theorem phaseSet_ofNum_num (x : PhaseSet) : PhaseSet.ofNum x.num = x := by
  obtain ⟨idle, makeready, print, wash⟩ := x
  revert idle makeready print wash
  decide

theorem phaseSet_num_lt (x : PhaseSet) : x.num < 16 := by
  obtain ⟨idle, makeready, print, wash⟩ := x
  revert idle makeready print wash
  decide

theorem curveField_lt (c : Option CurveIdx) : (c.map Fin.val).getD 0xFF < 256 := by
  cases c with
  | none => decide
  | some c => exact Nat.lt_of_lt_of_le c.isLt (by decide)

theorem curveField_ok (c : Option CurveIdx) : isCurveField ((c.map Fin.val).getD 0xFF) = true := by
  cases c with
  | none => decide
  | some c => simp [isCurveField]

theorem curveField_curve (c : Option CurveIdx) : curveOf ((c.map Fin.val).getD 0xFF) = c := by
  cases c with
  | none => decide
  | some c => exact curveOf_val c

/-- The payload of a Configure Tower carries slot `j`, tower `u` and these nine fields (R160). -/
structure CarriesTower (p : List Byte) (j : SlotIdx) (u : TowerIdx) (on : Bool) (key sweep : Option CurveIdx)
    (side scale keyMax deadband : Nat) (move trim : PhaseSet) : Prop where
  length : p.length = 13
  slot : u8 p 0 = j.val
  tower : u8 p 1 = u.val
  enabled : u8 p 2 = if on then 1 else 0
  keyCurve : u8 p 3 = (key.map Fin.val).getD 0xFF
  sweepCurve : u8 p 4 = (sweep.map Fin.val).getD 0xFF
  sideWeight : u8 p 5 = side
  scale : u16 p 6 = scale
  keyMax : u16 p 8 = keyMax
  deadband : u8 p 10 = deadband
  movePhases : u8 p 11 = move.num
  trimPhases : u8 p 12 = trim.num

section
variable {p : List Byte} {j : SlotIdx} {u : TowerIdx} {on : Bool} {key sweep : Option CurveIdx}
  {side scale keyMax deadband : Nat} {move trim : PhaseSet} {s : State}

theorem carriesTower_of_payload (hside : side < 256) (hscale : scale < 65536) (hmax : keyMax < 65536) (hband : deadband < 256)
    (hp : p = byte1 j.val ++ byte1 u.val ++ byte1 (if on then 1 else 0) ++ byte1 ((key.map Fin.val).getD 0xFF)
      ++ byte1 ((sweep.map Fin.val).getD 0xFF) ++ byte1 side ++ byte2 scale ++ byte2 keyMax ++ byte1 deadband
      ++ byte1 move.num ++ byte1 trim.num) :
    CarriesTower p j u on key sweep side scale keyMax deadband move trim := by
  subst hp
  constructor
  case length => rfl
  case slot => exact Nat.mod_eq_of_lt (by omega)
  case tower => exact Nat.mod_eq_of_lt (by omega)
  case enabled => cases on <;> rfl
  case keyCurve => exact Nat.mod_eq_of_lt (curveField_lt key)
  case sweepCurve => exact Nat.mod_eq_of_lt (curveField_lt sweep)
  case sideWeight => exact Nat.mod_eq_of_lt hside
  case scale => exact byte2_read hscale
  case keyMax => exact byte2_read hmax
  case deadband => exact Nat.mod_eq_of_lt hband
  case movePhases => exact Nat.mod_eq_of_lt (Nat.lt_of_lt_of_le (phaseSet_num_lt move) (by decide))
  case trimPhases => exact Nat.mod_eq_of_lt (Nat.lt_of_lt_of_le (phaseSet_num_lt trim) (by decide))

theorem configOk_of_carries (h : CarriesTower p j u on key sweep side scale keyMax deadband move trim) (hside : side ≤ 64)
    (least : 512 ≤ scale) (most : scale ≤ 2048) (some : 1 ≤ keyMax) (hmax : keyMax ≤ 4095) (hband : deadband ≤ 15) :
    configOk p = true := by
  have flag : isFlag (if on then 1 else 0) = true := by cases on <;> rfl
  simp only [configOk, h.enabled, h.keyCurve, h.sweepCurve, h.sideWeight, h.scale, h.keyMax, h.deadband, h.movePhases,
    h.trimPhases, flag, curveField_ok, isPhaseField, phaseSet_num_lt, hside, least, most, some, hmax, hband, decide_true,
    Bool.and_self]

theorem configure_of_carries (h : CarriesTower p j u on key sweep side scale keyMax deadband move trim) (r : TowerSettings) :
    r.configure p = { r with
      enabled := on, keyCurve := key, sweepCurve := sweep, sideWeight := side, scale := scale, keyMax := keyMax,
      deadband := deadband, movePhases := move, trimPhases := trim } := by
  have flag : ((if on then 1 else 0) == 1) = on := by cases on <;> rfl
  simp only [TowerSettings.configure, h.enabled, h.keyCurve, h.sweepCurve, h.sideWeight, h.scale, h.keyMax, h.deadband,
    h.movePhases, h.trimPhases, flag, curveField_curve, phaseSet_ofNum_num]

theorem configureTower_accepted (length : p.length = 13) (ok : configOk p = true) (slot : u8 p 0 = j.val)
    (tower : u8 p 1 = u.val) (unarmed : (look s.jobs j).inRole .armed = false) {t : State}
    (left : t = if s.isRunning j
      then handOnConfigure u (s.record j u) ((s.record j u).configure p)
        (readinessEvaluation j (writeRecord j u ((s.record j u).configure p) s))
      else readinessEvaluation j (writeRecord j u ((s.record j u).configure p) s)) :
    configureTower p s = ⟨t, .ok, loadAnswer j u t ++ []⟩ := by
  rw [configureTower, if_neg (not_not.2 length), left]
  exact loadRequest_accepted slot tower ok unarmed rfl
end

end Sys2Proof.Machine
end

section
/-! PROOF. Set Job Label (R28), Load Curve (R3, R6, R7), Configure Tower of a slot being prepared (R22). -/

set_option Elab.async false

namespace Sys2Proof.Machine

/-- Settles O22: the checks in order, then the job stored with its label and the slot's Readiness Evaluation. -/
theorem setJobLabelWritesTheLabel : Obligations.SetJobLabelWritesTheLabel := by
  unfold Obligations.SetJobLabelWritesTheLabel
  intro s f rest a label waits small payload
  dsimp only
  simp only [List.append_assoc]
  refine ⟨takeRequest .setJobLabel setJobLabel s, rfl,
    fun out => takeRequest_refused waits (setJobLabel_out_of_range payload small out), fun j ha few chars => ?_⟩
  have reply := setJobLabel_in_range (s := s.taken rest) payload ha few chars
  refine ⟨fun armed => takeRequest_refused waits (reply.trans (if_pos armed)), fun unarmed => ?_⟩
  have free : ¬ (look (s.taken rest).jobs j).inRole .armed = true := Bool.not_eq_true _ ▸ unarmed
  have stored := reply.trans (if_neg free)
  obtain ⟨answered, frame, after⟩ := takeRequest_fieldsThenStates waits (bs := [.jobs]) stored
    ((storeJob_frame _ _ _).trans (readinessEvaluation_frame _ _)) (by decide)
  refine ⟨answered, frame.mono (by decide), ?_⟩
  have written := jobWritten_of_stored (s := s.taken rest) unarmed after.jobs
  rw [labelOf_eq] at written
  exact written

/-- Settles O18: the checks in order, then the Library Change. -/
theorem loadCurveReplacesTheSlot : Obligations.LoadCurveReplacesTheSlot := by
  unfold Obligations.LoadCurveReplacesTheSlot
  intro s f rest n kind label vertices waits short few bounded payload
  refine ⟨takeRequest .loadCurve loadCurve s, rfl,
    fun out => takeRequest_refused waits (loadCurve_out_of_range payload short few bounded out),
    fun c k hn hk valid => ?_⟩
  obtain ⟨label8, least, most⟩ := Curve.counts_of_valid valid
  have short8 : label.length ≤ 8 := by
    by_cases empty : label = []
    · simp [empty]
    · simpa [empty] using label8
  have reply := loadCurve_counted (s := s.taken rest) short8 least most payload bounded
  rw [hn, curveOf_val, hk, ofNum_num] at reply
  dsimp only at reply valid
  rw [if_pos valid] at reply
  refine ⟨fun used => takeRequest_refused waits (reply.trans (if_pos used)), fun free => ?_⟩
  have unused : ¬ (s.taken rest).inUse c = true := Bool.not_eq_true _ ▸ free
  exact takeRequest_changeLibrary waits (reply.trans (if_neg unused))

/-- Settles O23: the nine fields are read back from the payload, and the slot is not the RUNNING one. -/
theorem configureTowerWritesNineFields : Obligations.ConfigureTowerWritesNineFields := by
  unfold Obligations.ConfigureTowerWritesNineFields
  intro s f rest j u on key sweep side scale keyMax deadband move trim waits hside hscale hscale' hmax hmax' hband payload
    ⟨unarmed, stopped⟩
  have carries := carriesTower_of_payload (by omega) (by omega) (by omega) (by omega) payload
  have ok := configOk_of_carries carries hside hscale hscale' hmax hmax' hband
  have reply := configureTower_accepted (s := s.taken rest) carries.length ok carries.slot carries.tower unarmed rfl
  rw [if_neg (show ¬ (s.taken rest).isRunning j = true from Bool.not_eq_true _ ▸ stopped), configure_of_carries carries,
    List.append_nil] at reply
  exact ⟨takeRequest .configureTower configureTower s, rfl, takeRequest_recordWritten waits unarmed reply⟩

end Sys2Proof.Machine
end

section
/-! SUPPORT. A move that ends, by an arrival, a stall or a second timeout, with the Dispatch Scan that follows (R89, R90, R93). -/

set_option Elab.async false

namespace Sys2Proof.Machine

/-- A move of zone `z` has ended in `e`: its place is free and its fields are `w`; nothing else has moved. -/
structure MoveEnded (s e : State) (u : TowerIdx) (z : ZoneIdx) (w : MotionZone) : Prop where
  frame : OnlyChanges [.motion, .clock] s e
  zone : ∀ v x, e.zone v x = if u = v ∧ z = x then w else s.zone v x
  watch : e.motion.watch = s.motion.watch
  queue : e.motion.queue = s.motion.queue
  press : e.motion.pressInFlight = s.motion.pressInFlight - 1

/-- What the end of a move and its Dispatch Scan leave in `t`: the Settle Watch test made, the other zones started at most, the
queue longer by the MOVEs of the zones started, and nothing left to start. -/
structure MoveConcluded (s t : State) (u : TowerIdx) (z : ZoneIdx) : Prop where
  settles : SettleTested s t u
  others : ∀ v x, (v, x) ≠ (u, z) → StartedOrSame s t v x
  exhausted : ScanExhausted t
  moves : ∃ moves, t.motion.queue = s.motion.queue ++ moves ∧ t.motion.pressInFlight = s.motion.pressInFlight - 1 + moves.length

theorem not_same_zone {u v : TowerIdx} {z x : ZoneIdx} (h : (v, x) ≠ (u, z)) : ¬ (u = v ∧ z = x) :=
  fun same => h (Prod.ext same.1.symm same.2.symm)

/-- With a zone in PENDING, MOVING or RETRY, a tower does not settle. -/
theorem settles_of_unsettled {s : State} {u : TowerIdx} {z : ZoneIdx} (h : (s.zone u z).state.unsettled = true) :
    s.settles u = false := by
  have stirs : s.atRest u = false := by
    simp only [State.atRest, List.all_eq_false]
    exact ⟨z, List.mem_finRange z, by simp [h]⟩
  rw [State.settles, stirs, Bool.and_false]

theorem putZone_same (s : State) (u : TowerIdx) (z : ZoneIdx) : s.putZone u z (s.zone u z) = s := by
  have zones : zput s.motion.zones u z (s.zone u z) = s.motion.zones := by
    refine zoneTable_ext fun v x => ?_
    rw [zlook_zput]
    split
    · next here => rw [← here.1, ← here.2]; rfl
    · rfl
  rw [State.putZone, zones]
  rfl

/-- A zone that becomes PENDING, MOVING or RETRY makes no tower settle. -/
theorem setMotionState_unsettled {s : State} {u : TowerIdx} {z : ZoneIdx} {m : MotionState} (h : m.unsettled = true) :
    setMotionState u z m s = s.putZone u z { s.zone u z with state := m } := by
  by_cases same : (s.zone u z).state = m
  · rw [setMotionState_same same, ← same]
    exact (putZone_same s u z).symm
  · rw [setMotionState_changed same, settleTest_kept (settles_of_unsettled (z := z) (by rw [putZone_zone, if_pos ⟨rfl, rfl⟩]; exact h))]

section
variable {s e r : State} {u : TowerIdx} {z : ZoneIdx} {w : MotionZone} {m : MotionState}

/-- The end of a move with its new motion state, and a scan of what it has left. -/
theorem MoveEnded.concluded (h : MoveEnded s e u z w) (changed : w.state ≠ m) (motion : r.motion = (setMotionState u z m e).motion)
    (engine : r.engine = s.engine) (record : look r.notice.records 7 = look (setMotionState u z m e).notice.records 7) :
    MoveConcluded s (dispatchScan r) u z := by
  have scanned := dispatchScan_scanned r
  have own : e.zone u z = w := (h.zone u z).trans (if_pos ⟨rfl, rfl⟩)
  have test : SettleTested e (setMotionState u z m e) u := setMotionState_settleTested (by rwa [own])
  have zones : ∀ v x, r.zone v x = (setMotionState u z m e).zone v x := fun v x => zone_congr motion v x
  have queue : r.motion.queue = s.motion.queue := by rw [motion, setMotionState_queue, h.queue]
  have press : r.motion.pressInFlight = s.motion.pressInFlight - 1 := by rw [motion, setMotionState_motion, ← h.press]
  obtain ⟨moves, appended, -, count, -⟩ := scanned.moves
  refine ⟨test.congr h.watch.symm (by rw [h.frame.notice]) (by rw [h.frame.cycle]) (fun x => ?_) ?_ ?_, fun v x other => ?_,
    dispatchScan_exhausted r, moves, by rw [appended, queue], by rw [count, press]⟩
  · rw [(scanned.zones u x).unsettled, zones]
  · rw [scanned.watch, motion]
  · rw [scanned.notice, record]
  · refine (scanned.zones v x).congr ?_ (targetOf_congr engine v x).symm rfl
    rw [zones, setMotionState_zone, if_neg (not_same_zone other), h.zone, if_neg (not_same_zone other)]

/-- The failure of a move: FAULTED, KEY_FAULT raised, and the scan (R90, R93). -/
theorem failMove_concluded {s r : State} (h : MoveEnded s (endMove u z r) u z w) (flight : w.state.inFlight = true) :
    MoveConcluded s (failMove u z r) u z
      ∧ (failMove u z r).zone u z = { w with state := .faulted }
      ∧ (∀ k, k ≠ 0 → k ≠ 7 → look (failMove u z r).notice.records k = look s.notice.records k)
      ∧ look (failMove u z r).notice.records 0
        = some (mergeNotice (look s.notice.records 0) (some u) (.zone u z) s.cycle.sheetCount) := by
  have changed : w.state ≠ .faulted := fun faulted => by simp [faulted, MotionState.inFlight] at flight
  have scanned := dispatchScan_scanned (failedMove u z r)
  have own : (endMove u z r).zone u z = w := (h.zone u z).trans (if_pos ⟨rfl, rfl⟩)
  have ended : (failedMove u z r).zone u z = { w with state := .faulted } := by
    rw [zone_congr (failedMove_motion u z r), setMotionState_zone, if_pos ⟨rfl, rfl⟩, own]
  have records : ∀ k, look (failedMove u z r).notice.records k
      = if (0 : Fin 8) = k then some (mergeNotice (look (setMotionState u z .faulted (endMove u z r)).notice.records 0) (some u)
          (.zone u z) (setMotionState u z .faulted (endMove u z r)).cycle.sheetCount)
        else look (setMotionState u z .faulted (endMove u z r)).notice.records k := fun k => raise_records .keyFault _ _ _ k
  have before : ∀ k : Fin 8, k ≠ 7 → look (setMotionState u z .faulted (endMove u z r)).notice.records k
      = look s.notice.records k := fun k other => by rw [setMotionState_records u z .faulted _ other, h.frame.notice]
  have engine : (failedMove u z r).engine = s.engine := by
    rw [failedMove, (raise_frame _ _ _ _).engine, (setMotionState_frame _ _ _ _).engine, h.frame.engine]
  have sheet : (setMotionState u z .faulted (endMove u z r)).cycle = s.cycle := by
    rw [(setMotionState_frame _ _ _ _).cycle, h.frame.cycle]
  rw [failMove_eq]
  refine ⟨h.concluded changed (failedMove_motion u z r) engine ((records 7).trans (if_neg (by decide))), ?_,
    fun k other other' => ?_, ?_⟩
  · obtain same | ⟨pending, -⟩ := scanned.zones u z
    · rw [same, ended]
    · rw [ended] at pending
      cases pending
  · rw [scanned.notice, records, if_neg other.symm, before k other']
  · rw [scanned.notice, records, if_pos rfl, before 0 (by decide), sheet]

/-- The arrival of a move: its motion state by K and the position, and the scan, which may start it again (R89). -/
theorem arrived_concluded {s r : State} (h : MoveEnded s (arrivedMove u z r) u z w) (flight : w.state.inFlight = true) :
    MoveConcluded s (arrived u z r) u z
      ∧ (∀ k, k ≠ 7 → look (arrived u z r).notice.records k = look s.notice.records k)
      ∧ ((arrivedMove u z r).arrivalState u z ≠ .pending →
        (arrived u z r).zone u z = { w with state := (arrivedMove u z r).arrivalState u z })
      ∧ ∀ g, s.targetOf u z = some g → (arrived u z r).zone u z = { w with state := (arrivedMove u z r).arrivalState u z }
        ∨ (arrived u z r).zone u z = { w with state := .moving, commanded := some g.k, tag := w.tag + 1 } := by
  rw [arrived_eq]
  generalize state : (arrivedMove u z r).arrivalState u z = m
  have rests : m.inFlight = false := state ▸ (arrivalState_spec u z (arrivedMove u z r)).1
  have changed : w.state ≠ m := fun same => by
    rw [same, rests] at flight
    cases flight
  have scanned := dispatchScan_scanned (setMotionState u z m (arrivedMove u z r))
  have engine : (setMotionState u z m (arrivedMove u z r)).engine = s.engine := by
    rw [(setMotionState_frame _ _ _ _).engine, h.frame.engine]
  have ended : (setMotionState u z m (arrivedMove u z r)).zone u z = { w with state := m } := by
    rw [setMotionState_zone, if_pos ⟨rfl, rfl⟩, h.zone, if_pos ⟨rfl, rfl⟩]
  refine ⟨h.concluded changed rfl engine rfl, fun k other => ?_, fun stays => ?_, fun g target => ?_⟩
  · rw [scanned.notice, setMotionState_records u z m _ other, h.frame.notice]
  · obtain same | ⟨pending, -⟩ := scanned.zones u z
    · rw [same, ended]
    · rw [ended] at pending
      exact absurd pending stays
  · obtain same | ⟨-, g', target', started⟩ := scanned.zones u z
    · exact .inl (by rw [same, ended])
    · rw [targetOf_congr engine, target] at target'
      obtain rfl := Option.some.inj target'
      exact .inr (by rw [started, ended])

end

end Sys2Proof.Machine
end

section
/-! PROOF. Move Timeouts (R91 to R93) and Key Reports (R88 to R90). -/

set_option Elab.async false

namespace Sys2Proof.Machine

theorem exec_moveTimeout (s : State) (u : TowerIdx) (z : ZoneIdx) : exec (.moveTimeout u z) s = .next (moveTimeout u z s) := rfl

theorem expired_frame (s : State) (u : TowerIdx) (z : ZoneIdx) (expiry : Nat) :
    OnlyChanges [.motion, .clock] s (s.expired u z expiry) :=
  OnlyChanges.trans ((setClock_frame _ _).mono (by decide)) ((putZone_frame _ _ _ _).mono (by decide))

theorem expired_own (s : State) (u : TowerIdx) (z : ZoneIdx) (expiry : Nat) :
    (s.expired u z expiry).zone u z = { s.zone u z with timer := none } := (expired_zone s u z expiry u z).trans (if_pos ⟨rfl, rfl⟩)

theorem moveEnded_expired (s : State) (u : TowerIdx) (z : ZoneIdx) (expiry : Nat) :
    MoveEnded s (endMove u z (s.expired u z expiry)) u z { s.zone u z with timer := none, commanded := none } where
  frame := (expired_frame s u z expiry).trans ((endMove_frame _ _ _).mono (by decide))
  zone v x := by
    rw [endMove_zone, expired_own, expired_zone]
    split
    · rfl
    · rfl
  watch := rfl
  queue := rfl
  press := rfl

theorem retried_watch (s : State) (u : TowerIdx) (z : ZoneIdx) : (s.retried u z).motion.watch = s.motion.watch := by
  rw [State.retried, setMotionState_unsettled rfl]
  rfl

theorem retried_frame (s : State) (u : TowerIdx) (z : ZoneIdx) : OnlyChanges [.motion] s (s.retried u z) := by
  rw [State.retried, setMotionState_unsettled rfl]
  exact (putZone_frame _ _ _ _).trans (putZone_frame _ _ _ _)

/-- The retry of a move with its MOVE queued again (R92). -/
def retriedWith (s : State) (u : TowerIdx) (z : ZoneIdx) (g : Nat) : State :=
  (s.retried u z).setMotion { (s.retried u z).motion with
    queue := (s.retried u z).motion.queue ++ [.move u z g ((s.zone u z).tag + 1)] }

theorem retriedWith_motion (s : State) (u : TowerIdx) (z : ZoneIdx) (g : Nat) : (retriedWith s u z g).motion
    = { s.motion with
      zones := (s.retried u z).motion.zones, queue := s.motion.queue ++ [.move u z g ((s.zone u z).tag + 1)] } := by
  rw [retriedWith, setMotion_motion, retried_motion, retried_watch]

theorem retriedWith_frame (s : State) (u : TowerIdx) (z : ZoneIdx) (g : Nat) : OnlyChanges [.motion] s (retriedWith s u z g) :=
  (retried_frame s u z).trans (setMotion_frame _ _)

theorem retriedWith_zone (s : State) (u : TowerIdx) (z : ZoneIdx) (g : Nat) (v : TowerIdx) (x : ZoneIdx) :
    (retriedWith s u z g).zone v x
      = if u = v ∧ z = x then { s.zone u z with state := .retry, tag := (s.zone u z).tag + 1 } else s.zone v x := by
  rw [← retried_zone]
  rfl

/-- Settles O42: the retry leaves the state of `retried`, the second timeout that of a failed move. -/
theorem moveTimeoutRetriesThenFaults : Obligations.MoveTimeoutRetriesThenFaults := by
  unfold Obligations.MoveTimeoutRetriesThenFaults
  intro s u z
  refine ⟨fun stopped => ?_, fun expiry running => ⟨fun g moving commanded => ?_, fun retry => ?_⟩⟩
  · rw [exec_moveTimeout, moveTimeout, stopped]
  · have own := expired_own s u z expiry
    have left : moveTimeout u z s = retriedWith (s.expired u z expiry) u z g := by
      rw [moveTimeout_running running, expireMove_moving _ u z (by rw [own, moving]),
        retryMove_some _ u z (k := g) (by rw [own, commanded])]
      rfl
    have frame := retriedWith_frame (s.expired u z expiry) u z g
    refine ⟨retriedWith (s.expired u z expiry) u z g, (exec_moveTimeout s u z).trans (congrArg Host.Outcome.next left),
      (expired_frame s u z expiry).trans (frame.mono (by decide)), frame.clock, ?_, fun v x other => ?_, ?_⟩
    · rw [retriedWith_zone, if_pos ⟨rfl, rfl⟩, own]
    · rw [retriedWith_zone, if_neg (not_same_zone other), expired_zone, if_neg (not_same_zone other)]
    · rw [retriedWith_motion, own]
      rfl
  · have left : moveTimeout u z s = failMove u z (s.expired u z expiry) := by
      rw [moveTimeout_running running, expireMove_retry _ u z (by rw [expired_own, retry])]
    obtain ⟨concluded, zone, records, fault⟩ := failMove_concluded (moveEnded_expired s u z expiry)
      (MotionState.inFlight_iff.2 (.inr retry))
    refine ⟨failMove u z (s.expired u z expiry), (exec_moveTimeout s u z).trans (congrArg Host.Outcome.next left), ?_, ?_, zone, concluded.settles, records, concluded.others, concluded.exhausted,
      concluded.moves, fault⟩
    · exact ((expired_frame s u z expiry).mono (by decide)).trans ((failMove_frame u z _).mono (by decide))
    · exact (failMove_frame u z _).clock

/-! ### Key Reports -/

/-- The position of a report recorded (R88). -/
def State.reported (s : State) (u : TowerIdx) (z : ZoneIdx) (position : Nat) : State :=
  s.putZone u z { s.zone u z with actual := some position }

section
variable (s : State) (u : TowerIdx) (z : ZoneIdx) (position : Nat)

theorem reported_own : (s.reported u z position).zone u z = { s.zone u z with actual := some position } :=
  (putZone_zone ..).trans (if_pos ⟨rfl, rfl⟩)

theorem moveEnded_reported : MoveEnded s (endMove u z (s.reported u z position)) u z
    { s.zone u z with actual := some position, timer := none, commanded := none } where
  frame := ((putZone_frame _ _ _ _).trans (endMove_frame _ _ _)).mono (by decide)
  zone v x := by
    rw [endMove_zone, reported_own, State.reported, putZone_zone]
    split
    · rfl
    · rfl
  watch := rfl
  queue := rfl
  press := rfl

theorem moveEnded_arrived : MoveEnded s (arrivedMove u z (s.reported u z position)) u z
    { s.zone u z with
      actual := some position, timer := none, commanded := none, settleUntil := s.settleFrom u } where
  frame := ((putZone_frame _ _ _ _).trans (arrivedMove_frame _ _ _)).mono (by decide)
  zone v x := by
    rw [arrivedMove_zone, reported_own, State.reported, putZone_zone, settleFrom_congr rfl rfl]
    split
    · rfl
    · rfl
  watch := rfl
  queue := rfl
  press := rfl

/-- The motion state an arrival leaves, by K and the position reported (R89). -/
theorem arrivalState_reported : (arrivedMove u z (s.reported u z position)).arrivalState u z
    = match s.targetOf u z with
      | none => .noTarget
      | some g => if |(g.k : Int) - position| ≤ (s.tower u).deadband then .atTarget else .pending := by
  have actual : ((arrivedMove u z (s.reported u z position)).zone u z).actual = some position := by
    rw [(moveEnded_arrived s u z position).zone, if_pos ⟨rfl, rfl⟩]
  have target : (arrivedMove u z (s.reported u z position)).targetOf u z = s.targetOf u z := rfl
  have tower : (arrivedMove u z (s.reported u z position)).tower u = s.tower u := rfl
  rw [State.arrivalState, target]
  cases s.targetOf u z with
  | none => rfl
  | some g =>
    have near : (arrivedMove u z (s.reported u z position)).withinDeadband u z g.k = true
        ↔ |(g.k : Int) - position| ≤ (s.tower u).deadband := by
      rw [withinDeadband_iff, actual, tower]
      simp
    dsimp only
    by_cases within : |(g.k : Int) - position| ≤ (s.tower u).deadband
    · rw [if_pos within, if_pos (near.2 within)]
    · rw [if_neg within, if_neg (mt near.1 within)]

theorem keyReport_eq (tag : BitVec 8) (n : Nat) (stalled : Bool) : keyReport u z tag n stalled s
    = if (s.reported u z (min 4095 n)).reportMatches u z tag then
        if stalled then failMove u z (s.reported u z (min 4095 n)) else arrived u z (s.reported u z (min 4095 n))
      else s.reported u z (min 4095 n) := by
  rw [Nat.min_comm]
  rfl

theorem reported_matches (tag : BitVec 8) : (s.reported u z position).reportMatches u z tag = true
    ↔ ((s.zone u z).state = .moving ∨ (s.zone u z).state = .retry) ∧ (s.zone u z).tag = tag
      ∧ ∀ g n, DriveEntry.move u z g n ∉ s.motion.queue := by
  have queued : (s.reported u z position).moveQueued u z = s.moveQueued u z := rfl
  rw [State.reportMatches, reported_own, queued, Bool.and_eq_true, Bool.and_eq_true, MotionState.inFlight_iff, beq_iff_eq,
    Bool.not_eq_true', ← Bool.not_eq_true, moveQueued_iff, and_assoc]
  simp
end

theorem takeKeyReport_out_of_range {u : TowerIdx} {p : List Byte} {key tag high low status : Byte} (hp : p = [key, tag, high, low, status])
    (out : 48 ≤ key.toNat ∨ 1 < status.toNat) (s : State) : takeKeyReport u p s = s := by
  subst hp
  unfold takeKeyReport
  rw [if_pos (show [key, tag, high, low, status].length = 5 from rfl)]
  cases zone : zoneOf (u8 [key, tag, high, low, status] 0) with
  | none => rfl
  | some z =>
    have near : key.toNat < 48 := by
      by_contra far
      rw [show zoneOf (u8 [key, tag, high, low, status] 0) = none from dif_neg far] at zone
      cases zone
    exact if_neg (by change ¬ status.toNat ≤ 1; omega)

theorem takeKeyReport_in_range {u : TowerIdx} {z : ZoneIdx} {p : List Byte} {key tag high low status : Byte}
    (hp : p = [key, tag, high, low, status]) (hz : key.toNat = z.val) (flag : status.toNat ≤ 1) (s : State) :
    takeKeyReport u p s = keyReport u z tag (high.toNat * 256 + low.toNat) (status.toNat == 1) s := by
  have zone : zoneOf (u8 p 0) = some z := by
    rw [hp, show u8 [key, tag, high, low, status] 0 = z.val from hz]
    exact dif_pos z.isLt
  subst hp
  unfold takeKeyReport
  rw [if_pos (show [key, tag, high, low, status].length = 5 from rfl), zone]
  exact if_pos flag

/-- Settles O41: a matching report is the end of a move in the state that has recorded the position. -/
theorem keyReportsRecordAndEndMoves : Obligations.KeyReportsRecordAndEndMoves := by
  unfold Obligations.KeyReportsRecordAndEndMoves
  intro s f u key tag high low status free kind source payload
  have run : exec (.portDFrameReceived f.bytes) s = .next (takeKeyReport u f.payload s) := by
    rw [exec_portDFrameReceived_bytes free (by simp [payload]), routeD_keyReport kind source]
  dsimp only
  rw [run]
  generalize position : min 4095 (high.toNat * 256 + low.toNat) = at'
  refine ⟨fun out => by rw [takeKeyReport_out_of_range payload out], fun z hz flag => ?_⟩
  rw [takeKeyReport_in_range payload hz flag, keyReport_eq, position]
  have matches_iff := reported_matches s u z at' tag
  refine ⟨fun other => by rw [if_neg (mt matches_iff.1 other)]; rfl, fun matching => ?_⟩
  rw [if_pos (matches_iff.2 matching)]
  have flight : (s.zone u z).state.inFlight = true := MotionState.inFlight_iff.2 matching.1
  have frame : OnlyChanges [.motion, .trim, .notice] s (s.reported u z at') := (putZone_frame _ _ _ _).mono (by decide)
  obtain arrival | stall : status.toNat = 0 ∨ status.toNat = 1 := by omega
  · rw [if_neg (by rw [arrival]; decide)]
    obtain ⟨concluded, records, zone⟩ := arrived_concluded (moveEnded_arrived s u z at') flight
    rw [arrivalState_reported] at zone
    refine ⟨_, rfl, frame.trans (arrived_frame u z _), concluded.settles, fun k _ other => records k other,
      fun _ => records 0 (by decide), concluded.others, concluded.exhausted, concluded.moves,
      fun _ => ⟨fun none => ?_, fun g target near => ?_, fun g target far => ?_⟩, fun stall => by omega⟩
    · rw [none] at zone
      exact zone.1 nofun
    · rw [target] at zone
      dsimp only at zone
      rw [if_pos near] at zone
      exact zone.1 nofun
    · rw [target] at zone
      dsimp only at zone
      rw [if_neg far] at zone
      exact zone.2 g rfl
  · rw [if_pos (by rw [stall]; rfl)]
    obtain ⟨concluded, zone, records, fault⟩ := failMove_concluded (moveEnded_reported s u z at') flight
    exact ⟨_, rfl, frame.trans (failMove_frame u z _), concluded.settles, records, fun arrival => by omega, concluded.others,
      concluded.exhausted, concluded.moves, fun arrival => by omega, fun _ => ⟨zone, fault⟩⟩

end Sys2Proof.Machine
end

section
/-! SUPPORT. The zones a Clear Key Fault names and what their clearing leaves (R94). -/

set_option Elab.async false

namespace Sys2Proof.Machine

/-- Zone `z` among the zones of a tower, by its number. -/
theorem allZones_filter_val (z : ZoneIdx) : (allZones.filter fun x => z.val == x.val) = [z] := by
  have same : (fun x : ZoneIdx => z.val == x.val) = (· == z) := by
    funext x
    rw [Bool.eq_iff_iff, beq_iff_eq, beq_iff_eq, Fin.ext_iff, eq_comm]
  rw [same, List.filter_beq, allZones, List.count_eq_one_of_mem (List.nodup_finRange 48) (List.mem_finRange z)]
  rfl

/-- The zones a Clear Key Fault with zone byte `b` names are the FAULTED ones among those that byte means. -/
theorem faultsNamed_eq {s : State} {u : TowerIdx} {b : Byte} (h : b.toNat < 48 ∨ b = 0xFF) :
    faultsNamed s u b.toNat
      = some (allZones.filter fun z => (s.zone u z).state = .faulted && (b == 0xFF || b.toNat == z.val)) := by
  unfold faultsNamed
  by_cases all : b = 0xFF
  · subst all
    rw [if_pos (by decide)]
    simp [State.faultedZones]
  · have small := h.resolve_right all
    have other : ¬ b.toNat = 0xFF := by omega
    rw [if_neg other, show zoneOf b.toNat = some ⟨b.toNat, small⟩ from dif_pos small]
    have named := allZones_filter_val ⟨b.toNat, small⟩
    have split : (allZones.filter fun z => decide ((s.zone u z).state = .faulted) && (b == 0xFF || b.toNat == z.val))
        = (allZones.filter fun z => b.toNat == z.val).filter fun z => (s.zone u z).state = .faulted := by
      rw [List.filter_filter]
      have off : (b == 0xFF) = false := beq_eq_false_iff_ne.2 all
      simp only [off, Bool.false_or]
    rw [split, named, List.filter_singleton]
    by_cases faulted : (s.zone u ⟨b.toNat, small⟩).state = .faulted
    · simp [faulted]
    · simp [faulted]

theorem faultsNamed_none {s : State} {u : TowerIdx} {b : Byte} (out : 48 ≤ b.toNat) (other : b ≠ 0xFF) :
    faultsNamed s u b.toNat = none := by
  have small : b.toNat ≠ 0xFF := fun same => other (BitVec.eq_of_toNat_eq same)
  rw [faultsNamed, if_neg small, show zoneOf b.toNat = none from dif_neg out.not_gt]
  rfl

/-- The zones of a tower cleared one after the other. -/
def clearFaults (u : TowerIdx) (zs : List ZoneIdx) (s : State) : State := zs.foldl (fun s z => clearFault u z s) s

theorem clearFaults_frame (u : TowerIdx) (zs : List ZoneIdx) (s : State) : OnlyChanges [.motion, .notice] s (clearFaults u zs s) :=
  OnlyChanges.foldl (fun s z => clearFault_frame _ z s) _ s

theorem clearedState_congr {s t : State} (engine : t.engine = s.engine) (u : TowerIdx) (z : ZoneIdx) :
    t.clearedState u z = s.clearedState u z := by
  rw [State.clearedState, State.clearedState, targetOf_congr engine]

theorem clearFaults_zone (u : TowerIdx) (zs : List ZoneIdx) (s : State) (v : TowerIdx) (x : ZoneIdx) :
    (clearFaults u zs s).zone v x
      = if u = v ∧ x ∈ zs then { s.zone v x with state := s.clearedState v x, actual := none } else s.zone v x := by
  induction zs generalizing s with
  | nil => simp [clearFaults]
  | cons z zs ih =>
    change (clearFaults u zs (clearFault u z s)).zone v x = _
    rw [ih, clearFault_zone, clearedState_congr (clearFault_frame u z s).engine]
    by_cases tower : u = v
    · subst tower
      by_cases here : z = x
      · subst here
        by_cases again : z ∈ zs <;> simp [again]
      · have member : x ∈ z :: zs ↔ x ∈ zs := by simp [Ne.symm here]
        simp [here, member]
    · simp [tower]

/-- With a tower's watch clear, or one of its zones in PENDING, MOVING or RETRY throughout, its zones raise no SETTLED. -/
theorem setMotionState_quiet {s : State} {u : TowerIdx} {z : ZoneIdx} {m : MotionState}
    (quiet : look s.motion.watch u = false ∨ ∃ x, x ≠ z ∧ (s.zone u x).state.unsettled = true) :
    (setMotionState u z m s).motion.watch = s.motion.watch ∧ (setMotionState u z m s).notice = s.notice := by
  by_cases same : (s.zone u z).state = m
  · rw [setMotionState_same same]
    exact ⟨rfl, rfl⟩
  · have none : (s.putZone u z { s.zone u z with state := m }).settles u = false := by
      obtain clear | ⟨x, other, stirs⟩ := quiet
      · rw [State.settles, show look (s.putZone u z _).motion.watch u = false from clear, Bool.false_and]
      · exact settles_of_unsettled (z := x) (by rw [putZone_zone, if_neg fun h => other h.2.symm, stirs])
    rw [setMotionState_changed same, settleTest_kept none]
    exact ⟨rfl, rfl⟩

theorem clearFaults_quiet {s : State} {u : TowerIdx} {zs : List ZoneIdx}
    (quiet : look s.motion.watch u = false ∨ ∃ x, x ∉ zs ∧ (s.zone u x).state.unsettled = true) :
    (clearFaults u zs s).motion.watch = s.motion.watch ∧ (clearFaults u zs s).notice = s.notice := by
  induction zs generalizing s with
  | nil => exact ⟨rfl, rfl⟩
  | cons z zs ih =>
    obtain ⟨watch, notice⟩ := setMotionState_quiet (s := s.putZone u z { s.zone u z with actual := none }) (z := z)
      (m := s.clearedState u z) (quiet.imp id fun ⟨x, out, stirs⟩ => ⟨x, fun h => out (h ▸ List.mem_cons_self), by
        rwa [putZone_zone, if_neg fun h : u = u ∧ z = x => out (h.2 ▸ List.mem_cons_self)]⟩)
    have watch' : (clearFault u z s).motion.watch = s.motion.watch := watch
    have notice' : (clearFault u z s).notice = s.notice := notice
    obtain ⟨watches, notices⟩ := ih (s := clearFault u z s) (by
      rw [watch']
      refine quiet.imp id fun ⟨x, out, stirs⟩ => ⟨x, fun h => out (List.mem_cons_of_mem z h), ?_⟩
      rwa [clearFault_zone, if_neg fun h : u = u ∧ z = x => out (h.2 ▸ List.mem_cons_self)])
    exact ⟨watches.trans watch', notices.trans notice'⟩

theorem clearFaults_records (u : TowerIdx) (zs : List ZoneIdx) (s : State) {k : Fin 8} (other : k ≠ 7) :
    look (clearFaults u zs s).notice.records k = look s.notice.records k := by
  induction zs generalizing s with
  | nil => rfl
  | cons z zs ih => exact (ih _).trans (setMotionState_records u z _ _ other)

section
variable {p : List Byte} {a b : Byte} {s : State}

theorem clearKeyFault_out_of_range (hp : p = [a, b]) (out : 12 ≤ a.toNat ∨ (48 ≤ b.toNat ∧ b ≠ 0xFF)) :
    clearKeyFault p s = ⟨s, .range, []⟩ := by
  subst hp
  unfold clearKeyFault
  rw [if_neg (by simp)]
  cases tower : towerOf (u8 [a, b] 0) with
  | none => rfl
  | some u =>
    have near : ¬ 12 ≤ a.toNat := fun far => by
      rw [show towerOf (u8 [a, b] 0) = none from dif_neg far.not_gt] at tower
      cases tower
    obtain ⟨zone, other⟩ := out.resolve_left near
    have none : faultsNamed s u (u8 [a, b] 1) = none := faultsNamed_none zone other
    dsimp only
    rw [none]
    rfl

theorem clearKeyFault_named {u : TowerIdx} (hp : p = [a, b]) (ha : a.toNat = u.val) {zs : List ZoneIdx}
    (named : faultsNamed s u b.toNat = some zs) :
    clearKeyFault p s = if zs = [] then ⟨s, .state, []⟩
      else ⟨scanIfPending s (clearFaults u zs s), .ok, [a] ++ byte1 zs.length⟩ := by
  subst hp
  have tower : towerOf (u8 [a, b] 0) = some u := by
    rw [show u8 [a, b] 0 = u.val from ha]
    exact towerOf_val u
  have named' : faultsNamed s u (u8 [a, b] 1) = some zs := named
  unfold clearKeyFault
  rw [if_neg (by simp)]
  simp only [tower, named']
  rw [← ha, byte1_toNat]
  cases zs with
  | nil => rfl
  | cons z zs => rfl
end

end Sys2Proof.Machine
end

section
/-! PROOF. Clear Key Fault (R94), and the millisecond of an empty command queue (log entry 4). -/

set_option Elab.async false

namespace Sys2Proof.Machine

/-- Settles O40: the zones named are cleared one after the other, each from its own fields, and one scan follows. -/
theorem clearKeyFaultClearsFaultedZones : Obligations.ClearKeyFaultClearsFaultedZones := by
  unfold Obligations.ClearKeyFaultClearsFaultedZones
  intro s f rest a b waits payload
  refine ⟨takeRequest .clearKeyFault clearKeyFault s, rfl,
    fun out => takeRequest_refused waits (clearKeyFault_out_of_range payload out), fun u ha named => ?_⟩
  intro cleared
  generalize hzs : (allZones.filter fun z => decide ((s.zone u z).state = .faulted) && (b == 0xFF || b.toNat == z.val)) = zs
  have member : ∀ z, z ∈ zs ↔ cleared z := fun z => by
    rw [← hzs, List.mem_filter]
    simp [allZones, cleared]
  have reply := clearKeyFault_named (s := s.taken rest) payload ha (zs := zs) ((faultsNamed_eq named).trans (congrArg some hzs))
  refine ⟨fun none => takeRequest_refused waits (reply.trans (if_pos (List.eq_nil_iff_forall_not_mem.2 fun z there =>
    none z ((member z).1 there)))), fun ⟨y, hy⟩ => ?_⟩
  have some : zs ≠ [] := List.ne_nil_of_mem ((member y).2 hy)
  rw [if_neg some] at reply
  obtain ⟨answered, frame, after⟩ := takeRequest_answered waits clearKeyFault (bs := [.motion, .trim, .notice])
    (clearKeyFault_frame _ _) (by decide)
  rw [reply] at answered after
  dsimp only at answered after
  have scanned := scanIfPending_scanned (s.taken rest) (clearFaults u zs (s.taken rest))
  have fold (v x) : (clearFaults u zs (s.taken rest)).zone v x = if u = v ∧ x ∈ zs
      then { s.zone v x with state := s.clearedState v x, actual := none } else s.zone v x := clearFaults_zone u zs _ v x
  have zone (z) (there : z ∈ zs) : StartedOrSame (clearFaults u zs (s.taken rest)) (takeRequest .clearKeyFault clearKeyFault s) u z
      ∧ (clearFaults u zs (s.taken rest)).zone u z = { s.zone u z with state := s.clearedState u z, actual := Option.none } :=
    ⟨(scanned.zones u z).congr rfl rfl (zone_congr after.motion u z), (fold u z).trans (if_pos ⟨rfl, there⟩)⟩
  have target (z) : (clearFaults u zs (s.taken rest)).targetOf u z = s.targetOf u z :=
    targetOf_congr (clearFaults_frame u zs (s.taken rest)).engine u z
  refine ⟨frame.mono (by decide), answered, fun z clear absent => ?_, fun z g clear present => ?_, fun v z kept => ?_,
    fun quiet => ?_, fun k other => ?_, fun ⟨z, clear, present⟩ => ?_⟩
  · obtain ⟨started, cleared⟩ := zone z ((member z).2 clear)
    have state : s.clearedState u z = .noTarget := by rw [State.clearedState, absent]; rfl
    rw [state] at cleared
    obtain same | ⟨pending, -⟩ := started
    · rw [same, cleared]
    · rw [cleared] at pending
      cases pending
  · obtain ⟨started, cleared⟩ := zone z ((member z).2 clear)
    have state : s.clearedState u z = .pending := by rw [State.clearedState, present]; rfl
    rw [state] at cleared
    obtain same | ⟨-, g', target', started⟩ := started
    · exact .inl (by rw [same, cleared])
    · rw [target, present] at target'
      obtain rfl := Option.some.inj target'
      exact .inr (by rw [started, cleared])
  · refine (scanned.zones v z).congr ?_ (targetOf_congr (clearFaults_frame u zs (s.taken rest)).engine v z).symm
      (zone_congr after.motion v z)
    refine ((fold v z).trans (if_neg fun ⟨tower, there⟩ => ?_)).symm
    exact kept.elim (fun other => other tower.symm) (fun not => not ((member z).1 there))
  · have stirred : look (s.taken rest).motion.watch u = false ∨ ∃ x, x ∉ zs ∧ ((s.taken rest).zone u x).state.unsettled = true := by
      refine quiet.imp id fun ⟨x, stirs⟩ => ⟨x, fun there => ?_, ?_⟩
      · have faulted := ((member x).1 there).1
        rw [faulted] at stirs
        simp at stirs
      · change (s.zone u x).state.unsettled = true
        obtain state | state | state := stirs <;> rw [state] <;> rfl
    obtain ⟨watch, notice⟩ := clearFaults_quiet stirred
    exact ⟨(congrArg Motion.watch after.motion).trans (scanned.watch.trans watch), after.notice.trans (scanned.notice.trans notice)⟩
  · rw [after.notice, scanned.notice, clearFaults_records u zs _ other]
    rfl
  · obtain ⟨g, hg⟩ := Option.ne_none_iff_exists'.1 present
    have pending : ((clearFaults u zs (s.taken rest)).zone u z).state = .pending := by
      rw [(zone z ((member z).2 clear)).2, State.clearedState, hg]
      rfl
    have before : ((s.taken rest).zone u z).state ≠ .pending := by
      rw [show (s.taken rest).zone u z = s.zone u z from rfl, clear.1]
      decide
    exact (scanIfPending_exhausted pending before).congr after.motion after.engine after.jobs after.cycle

/-! ### One millisecond (log entry 4) -/

/-- The expiry of a zone's move timer where it is due, else nothing. -/
def expireDue (s : State) (p : TowerIdx × ZoneIdx) : State := if s.timerDue p.1 p.2 then moveTimeout p.1 p.2 s else s

theorem timerDue_iff {s : State} {u : TowerIdx} {z : ZoneIdx} :
    s.timerDue u z = true ↔ ∃ e, (s.zone u z).timer = some e ∧ e ≤ s.clock := by
  unfold State.timerDue
  cases (s.zone u z).timer with
  | none => simp
  | some e => simp

theorem StartedOrSame.timer {s t : State} {u : TowerIdx} {z : ZoneIdx} (h : StartedOrSame s t u z) :
    (t.zone u z).timer = (s.zone u z).timer := by
  obtain same | ⟨-, g, -, started⟩ := h
  · rw [same]
  · rw [started]

/-- An expiry stops its zone's timer and no other. -/
theorem expireMove_timer {s : State} {u : TowerIdx} {z : ZoneIdx} (stopped : (s.zone u z).timer = none) (v : TowerIdx)
    (x : ZoneIdx) : ((expireMove u z s).zone v x).timer = (s.zone v x).timer := by
  cases flight : (s.zone u z).state.inFlight with
  | false => rw [expireMove_resting s u z flight]
  | true =>
    obtain moving | retry := MotionState.inFlight_iff.1 flight
    · have zone : (expireMove u z s).zone v x = (s.retried u z).zone v x := by
        rw [expireMove_moving s u z moving]
        rfl
      rw [zone, retried_zone]
      split
      · next here => rw [← here.1, ← here.2]
      · rfl
    · rw [expireMove_retry s u z retry, failMove_eq, ((dispatchScan_scanned _).zones v x).timer, failedMove_zone]
      split
      · next here => rw [← here.1, ← here.2, stopped]
      · rfl

theorem expireDue_timer (s : State) (p : TowerIdx × ZoneIdx) (v : TowerIdx) (x : ZoneIdx) :
    ((expireDue s p).zone v x).timer = if s.timerDue p.1 p.2 = true ∧ p.1 = v ∧ p.2 = x then none else (s.zone v x).timer := by
  unfold expireDue
  by_cases due : s.timerDue p.1 p.2 = true
  · obtain ⟨e, running, -⟩ := timerDue_iff.1 due
    rw [if_pos due, moveTimeout_running running, expireMove_timer (by rw [expired_own]), expired_zone]
    by_cases here : p.1 = v ∧ p.2 = x
    · rw [if_pos here, if_pos ⟨due, here⟩]
    · rw [if_neg here, if_neg fun h => here h.2]
  · rw [if_neg due, if_neg fun h => due h.1]

theorem expireDue_clock (s : State) (p : TowerIdx × ZoneIdx) : (expireDue s p).clock = s.clock := by
  unfold expireDue
  by_cases due : s.timerDue p.1 p.2 = true
  · obtain ⟨e, running, reached⟩ := timerDue_iff.1 due
    rw [if_pos due, moveTimeout_running running, (expireMove_frame _ _ _).clock]
    exact Nat.max_eq_left reached
  · rw [if_neg due]

/-- A timer that is not due is not due after another's expiry either, and none is due after its own. -/
theorem expireDue_due {s : State} {p : TowerIdx × ZoneIdx} {v : TowerIdx} {x : ZoneIdx}
    (h : (expireDue s p).timerDue v x = true) : s.timerDue v x = true ∧ p ≠ (v, x) := by
  rw [timerDue_iff, expireDue_timer, expireDue_clock] at h
  obtain ⟨e, running, reached⟩ := h
  split at running
  · cases running
  · next other =>
    have due : s.timerDue v x = true := timerDue_iff.2 ⟨e, running, reached⟩
    refine ⟨due, fun same => other ?_⟩
    rw [same]
    exact ⟨due, rfl, rfl⟩

theorem expiries_due (l : List (TowerIdx × ZoneIdx)) (s : State) :
    (l.foldl expireDue s).clock = s.clock
      ∧ ∀ v x, (l.foldl expireDue s).timerDue v x = true → s.timerDue v x = true ∧ (v, x) ∉ l := by
  induction l generalizing s with
  | nil => exact ⟨rfl, fun v x h => ⟨h, List.not_mem_nil⟩⟩
  | cons p l ih =>
    obtain ⟨clock, due⟩ := ih (expireDue s p)
    refine ⟨clock.trans (expireDue_clock s p), fun v x h => ?_⟩
    obtain ⟨before, out⟩ := due v x h
    obtain ⟨before', other⟩ := expireDue_due before
    exact ⟨before', fun there => (List.mem_cons.1 there).elim (fun same => other same.symm) out⟩

theorem expiries_none {l : List (TowerIdx × ZoneIdx)} {s : State} (h : ∀ v x, s.timerDue v x = false) :
    l.foldl expireDue s = s := by
  induction l with
  | nil => rfl
  | cons p l ih =>
    have kept : expireDue s p = s := if_neg (by rw [h]; decide)
    rw [List.foldl_cons, kept, ih]

/-- Settles O2: each expiry stops its own timer and starts none, and every zone is visited. -/
theorem emptyQueueIsOneMillisecond : Obligations.EmptyQueueIsOneMillisecond := by
  unfold Obligations.EmptyQueueIsOneMillisecond
  intro s idle
  obtain ⟨clock, due⟩ := expiries_due allPairs (s.setClock (s.clock + 1))
  refine ⟨tick s, by rw [step, idle], clock, fun u z e running => ?_, fun none => ?_⟩
  · by_contra reached
    exact (due u z (timerDue_iff.2 ⟨e, running, Nat.not_lt.1 reached⟩)).2 (mem_allPairs _)
  · refine expiries_none fun u z => ?_
    by_contra h
    obtain ⟨e, running, reached⟩ := timerDue_iff.1 (Bool.not_eq_false _ ▸ h)
    exact absurd (none u z e running) (Nat.not_lt.2 reached)

end Sys2Proof.Machine
end

section
/-! SUPPORT. What a hand-on reads (R74, R96), and a zone's trim update before its Zone Update (R111). -/

set_option Elab.async false

namespace Sys2Proof.Machine

/-! ### What a hand-on reads -/

/-- What a hand-on and its Settle Watch test read is the same in both states. -/
structure SameHandOn (s t : State) : Prop where
  motion : t.motion = s.motion
  jobs : t.jobs = s.jobs
  cycle : t.cycle = s.cycle
  record : look t.notice.records 7 = look s.notice.records 7

section
variable {s t : State} (h : SameHandOn s t)
include h

theorem settleTest_congr (u : TowerIdx) : SameHandOn (settleTest u s) (settleTest u t) := by
  have rest : t.atRest u = s.atRest u := atRest_congr fun z => by rw [zone_congr h.motion]
  have same : t.settles u = s.settles u := by rw [State.settles, State.settles, h.motion, rest]
  cases settled : s.settles u with
  | false =>
    rw [settleTest_kept settled, settleTest_kept (same.trans settled)]
    exact h
  | true =>
    rw [settleTest_settled settled, settleTest_settled (same.trans settled)]
    refine ⟨?_, h.jobs, h.cycle, ?_⟩
    · rw [(raise_frame _ _ _ _).motion, (raise_frame _ _ _ _).motion, setMotion_motion, setMotion_motion, h.motion]
    · have fresh : ∀ r : State, look (raise .settled (some u) (.tower u) r).notice.records 7
          = some (mergeNotice (look r.notice.records 7) (some u) (.tower u) r.cycle.sheetCount) := fun r =>
        (raise_records ..).trans (if_pos rfl)
      rw [fresh, fresh, setMotion_notice, setMotion_notice, setMotion_cycle, setMotion_cycle, h.record, h.cycle]

theorem setMotionState_congr (u : TowerIdx) (z : ZoneIdx) (m' : MotionState) :
    SameHandOn (setMotionState u z m' s) (setMotionState u z m' t) := by
  have zone := zone_congr h.motion u z
  by_cases same : (s.zone u z).state = m'
  · rw [setMotionState_same same, setMotionState_same (by rw [zone, same])]
    exact h
  · rw [setMotionState_changed same, setMotionState_changed (by rwa [zone]), zone]
    have written : SameHandOn (s.putZone u z { s.zone u z with state := m' }) (t.putZone u z { s.zone u z with state := m' }) :=
      ⟨congrArg (fun m : Motion => { m with zones := zput m.zones u z { s.zone u z with state := m' } }) h.motion, h.jobs,
        h.cycle, h.record⟩
    exact settleTest_congr written u

theorem handTarget_congr (u : TowerIdx) (z : ZoneIdx) (k : Nat) : SameHandOn (handTarget u z k s) (handTarget u z k t) := by
  have zone := zone_congr h.motion u z
  have near : t.withinDeadband u z k = s.withinDeadband u z k := by
    simp only [State.withinDeadband, zone, tower_congr h.jobs]
  have queued : t.moveQueued u z = s.moveQueued u z := by simp only [State.moveQueued, h.motion]
  have retargets : t.retargets u z k ↔ s.retargets u z k := by
    simp only [State.retargets, zone, State.mayMove, tower_congr h.jobs, h.cycle]
  obtain ⟨rest, left⟩ | ⟨rest, takes, there, left⟩ | ⟨rest, takes, there, left⟩ | ⟨rest, kept, left⟩ := handTarget_cases u z k s
  · rw [left, handTarget_resting (by rwa [zone]), near]
    exact setMotionState_congr h u z _
  · rw [left, handTarget_retargets (retargets.2 takes), keyRetarget_queued (queued.trans there), zone, h.motion]
    exact ⟨rfl, h.jobs, h.cycle, h.record⟩
  · rw [left, handTarget_retargets (retargets.2 takes), keyRetarget_sent (queued.trans there), zone, h.motion]
    exact ⟨rfl, h.jobs, h.cycle, h.record⟩
  · rw [left, handTarget_kept (by rwa [zone]) (mt retargets.1 kept)]
    exact h

end

/-- Where a hand-on leaves the Motion Scheduler, it raises no SETTLED: that would have cleared a watch. -/
theorem handTarget_record_of_motion {u : TowerIdx} {z : ZoneIdx} {k : Nat} {s : State}
    (same : (handTarget u z k s).motion = s.motion) : (handTarget u z k s).notice = s.notice :=
  (handTarget_kept_state (by rw [zone_congr same])).2

theorem hasPassed_iff {p : TowerPass} {z : ZoneIdx} : p.hasPassed z = true ↔ p.state = .none ∨ z.val < p.cursor := by
  unfold TowerPass.hasPassed
  cases p.state with
  | none => simp
  | active => simp

section
variable {s : State} {u : TowerIdx} {z : ZoneIdx}

theorem zoneUpdate_none (absent : s.targetOf u z = none) : zoneUpdate u z s = s := by
  rw [zoneUpdate, absent]

theorem zoneUpdate_left (ahead : (s.pass u).hasPassed z = false) : zoneUpdate u z s = s := by
  unfold zoneUpdate
  cases s.targetOf u z with
  | none => rfl
  | some g => exact if_neg (by rw [ahead]; decide)

theorem zoneUpdate_passed {g : Target} (target : s.targetOf u z = some g) (passed : (s.pass u).hasPassed z = true) :
    zoneUpdate u z s = rewriteTarget u z g
      (keyTarget g.b (s.trimOf u z).trim ((s.tower u).offsetOf z) (s.tower u).keyMax) s := by
  rw [zoneUpdate, target]
  exact if_pos passed

/-- A rewritten Key Target acts in the Motion Scheduler as the hand-on of it does. -/
theorem rewriteTarget_sameHandOn (u : TowerIdx) (z : ZoneIdx) (g : Target) (k : Nat) {r : State} (h : SameHandOn s r) :
    SameHandOn (handTarget u z k s) (rewriteTarget u z g k r) :=
  handTarget_congr (t := r.putTarget u z (some { g with k := k })) ⟨h.motion, h.jobs, h.cycle, h.record⟩ u z k

end

/-! ### The trim update (R111) -/

/-- Trim `new` written for a zone, with Trim Saturated set and TRIM_LIMIT raised where the clamp changed it. -/
def State.trimmed (s : State) (u : TowerIdx) (z : ZoneIdx) (new : Int) (clamped : Prop) [Decidable clamped] : State :=
  let s1 := s.putTrim u z { s.trimOf u z with trim := new }
  if clamped then
    raise .trimLimit (some u) (.zone u z) (s1.setTrim { s1.trim with saturated := put s1.trim.saturated u true })
  else s1

section
variable (s : State) (u : TowerIdx) (z : ZoneIdx) (new : Int) (clamped : Prop) [Decidable clamped]

theorem trimmed_sameContext : (s.trimmed u z new clamped).jobs = s.jobs ∧ (s.trimmed u z new clamped).engine = s.engine
    ∧ (s.trimmed u z new clamped).motion = s.motion ∧ (s.trimmed u z new clamped).cycle = s.cycle := by
  unfold State.trimmed
  split
  · exact ⟨rfl, rfl, rfl, rfl⟩
  · exact ⟨rfl, rfl, rfl, rfl⟩

theorem trimmed_records (k : Fin 8) : look (s.trimmed u z new clamped).notice.records k
    = if clamped ∧ k = 4 then some (mergeNotice (look s.notice.records 4) (some u) (.zone u z) s.cycle.sheetCount)
      else look s.notice.records k := by
  by_cases clamps : clamped
  · rw [State.trimmed, if_pos clamps]
    refine (raise_records ..).trans ?_
    by_cases here : k = 4
    · subst here
      exact (if_pos rfl).trans (if_pos ⟨clamps, rfl⟩).symm
    · exact (if_neg fun same => here same.symm).trans (if_neg fun both => here both.2).symm
  · rw [State.trimmed, if_neg clamps]
    exact (if_neg fun both => clamps both.1).symm

theorem trimmed_trim : (s.trimmed u z new clamped).trim = { s.trim with
    zones := zput s.trim.zones u z { s.trimOf u z with trim := new }
    saturated := put s.trim.saturated u (look s.trim.saturated u || decide clamped) } := by
  by_cases clamps : clamped
  · rw [State.trimmed, if_pos clamps, decide_eq_true clamps, Bool.or_true]
    rfl
  · rw [State.trimmed, if_neg clamps, decide_eq_false clamps, Bool.or_false, put_look]
    rfl

theorem trimmed_trimOf (v : TowerIdx) (x : ZoneIdx) : (s.trimmed u z new clamped).trimOf v x
    = if u = v ∧ z = x then { s.trimOf u z with trim := new } else s.trimOf v x := by
  rw [State.trimOf, trimmed_trim]
  exact zlook_zput ..

theorem trimmed_sameHandOn : SameHandOn s (s.trimmed u z new clamped) := by
  obtain ⟨jobs, -, motion, cycle⟩ := trimmed_sameContext s u z new clamped
  exact ⟨motion, jobs, cycle, (trimmed_records ..).trans (if_neg fun both => absurd both.2 (by decide))⟩

end

/-- The trim that an update by step `n` against the sign of `d` wants, and what the trim limit makes of it (R111). -/
def State.wantedTrim (s : State) (u : TowerIdx) (z : ZoneIdx) (d : Int) (n : Nat) : Int := (s.trimOf u z).trim - d.sign * n

def State.newTrim (s : State) (u : TowerIdx) (z : ZoneIdx) (d : Int) (n : Nat) : Int :=
  clampInt (-((s.tower u).trimLimit : Int)) (s.tower u).trimLimit (s.wantedTrim u z d n)

/-- The state with the new trim written, before its Zone Update. -/
def State.stepped (s : State) (u : TowerIdx) (z : ZoneIdx) (d : Int) (n : Nat) : State :=
  s.trimmed u z (s.newTrim u z d n) (s.newTrim u z d n ≠ s.wantedTrim u z d n)

theorem trimUpdate_eq (u : TowerIdx) (z : ZoneIdx) (d : Int) (n : Nat) (s : State) : trimUpdate u z d n s
    = if s.newTrim u z d n ≠ (s.trimOf u z).trim then zoneUpdate u z (s.stepped u z d n) else s.stepped u z d n := rfl

/-- A trim update hands a Key Target on where the trim has changed, the pass has passed the zone and B is defined, and else does
no more than write the trim. -/
theorem trimUpdate_cases (u : TowerIdx) (z : ZoneIdx) (d : Int) (n : Nat) (s : State) :
    ((s.newTrim u z d n = (s.trimOf u z).trim ∨ (s.pass u).hasPassed z = false ∨ s.targetOf u z = none)
        ∧ trimUpdate u z d n s = s.stepped u z d n)
      ∨ ∃ g, s.newTrim u z d n ≠ (s.trimOf u z).trim ∧ (s.pass u).hasPassed z = true ∧ s.targetOf u z = some g
        ∧ trimUpdate u z d n s = rewriteTarget u z g
          (keyTarget g.b (s.newTrim u z d n) ((s.tower u).offsetOf z) (s.tower u).keyMax) (s.stepped u z d n) := by
  obtain ⟨jobs, engine, -⟩ := trimmed_sameContext s u z (s.newTrim u z d n)
    (s.newTrim u z d n ≠ s.wantedTrim u z d n)
  have target : (s.stepped u z d n).targetOf u z = s.targetOf u z := targetOf_congr engine u z
  have pass : (s.stepped u z d n).pass u = s.pass u := congrArg (fun e : Engine => look e.passes u) engine
  have trim : ((s.stepped u z d n).trimOf u z).trim = s.newTrim u z d n := by
    rw [State.stepped, trimmed_trimOf, if_pos ⟨rfl, rfl⟩]
  rw [trimUpdate_eq]
  by_cases changed : s.newTrim u z d n = (s.trimOf u z).trim
  · exact .inl ⟨.inl changed, if_neg (not_not.2 changed)⟩
  · rw [if_pos changed]
    cases present : s.targetOf u z with
    | none => exact .inl ⟨.inr (.inr rfl), zoneUpdate_none (target.trans present)⟩
    | some g =>
      cases passed : (s.pass u).hasPassed z with
      | false => exact .inl ⟨.inr (.inl rfl), zoneUpdate_left (by rw [pass, passed])⟩
      | true =>
        refine .inr ⟨g, changed, rfl, rfl, ?_⟩
        rw [zoneUpdate_passed (target.trans present) (by rw [pass, passed]), trim,
          show (s.stepped u z d n).tower u = s.tower u from tower_congr jobs u]

theorem trimUpdate_handing (u : TowerIdx) (z : ZoneIdx) (d : Int) (n : Nat) (s : State) :
    Handing (s.stepped u z d n) (trimUpdate u z d n s) := by
  obtain ⟨-, left⟩ | ⟨g, -, -, -, left⟩ := trimUpdate_cases u z d n s
  · rw [left]
    exact .refl _
  · rw [left]
    exact rewriteTarget_handing ..

theorem trimUpdate_trim (u : TowerIdx) (z : ZoneIdx) (d : Int) (n : Nat) (s : State) : (trimUpdate u z d n s).trim
    = { s.trim with
      zones := zput s.trim.zones u z { s.trimOf u z with trim := s.newTrim u z d n }
      saturated := put s.trim.saturated u
        (look s.trim.saturated u || decide (s.newTrim u z d n ≠ s.wantedTrim u z d n)) } :=
  (trimUpdate_handing u z d n s).frame.trim.trans (trimmed_trim ..)

theorem trimUpdate_records (u : TowerIdx) (z : ZoneIdx) (d : Int) (n : Nat) (s : State) {k : Fin 8} (other : k ≠ 7) :
    look (trimUpdate u z d n s).notice.records k
      = if s.newTrim u z d n ≠ s.wantedTrim u z d n ∧ k = 4
        then some (mergeNotice (look s.notice.records 4) (some u) (.zone u z) s.cycle.sheetCount)
        else look s.notice.records k := by
  rw [(trimUpdate_handing u z d n s).records k other, State.stepped, trimmed_records]

theorem trimUpdate_trimOf (u : TowerIdx) (z : ZoneIdx) (d : Int) (n : Nat) (s : State) (v : TowerIdx) (x : ZoneIdx) :
    (trimUpdate u z d n s).trimOf v x
      = if u = v ∧ z = x then { s.trimOf u z with trim := s.newTrim u z d n } else s.trimOf v x := by
  rw [State.trimOf, trimUpdate_trim]
  exact zlook_zput ..

theorem trimUpdate_saturated (u : TowerIdx) (z : ZoneIdx) (d : Int) (n : Nat) (s : State) :
    look (trimUpdate u z d n s).trim.saturated u
      = (look s.trim.saturated u || decide (s.newTrim u z d n ≠ s.wantedTrim u z d n)) := by
  rw [trimUpdate_trim]
  exact (look_put ..).trans (if_pos rfl)

/-- A trim update without a hand-on leaves the Zone Engine and the Motion Scheduler. -/
theorem trimUpdate_still {u : TowerIdx} {z : ZoneIdx} {d : Int} {n : Nat} {s : State}
    (still : s.newTrim u z d n = (s.trimOf u z).trim ∨ (s.pass u).hasPassed z = false ∨ s.targetOf u z = none) :
    (trimUpdate u z d n s).engine = s.engine ∧ (trimUpdate u z d n s).motion = s.motion := by
  obtain ⟨-, left⟩ | ⟨g, changed, passed, target, -⟩ := trimUpdate_cases u z d n s
  · rw [left]
    exact ⟨(trimmed_sameContext ..).2.1, (trimmed_sameContext ..).2.2.1⟩
  · obtain same | ahead | absent := still
    · exact absurd same changed
    · rw [passed] at ahead
      cases ahead
    · rw [target] at absent
      cases absent

theorem trimUpdate_handed {u : TowerIdx} {z : ZoneIdx} {d : Int} {n : Nat} {s : State} {g : Target}
    (changed : s.newTrim u z d n ≠ (s.trimOf u z).trim) (passed : (s.pass u).hasPassed z = true)
    (target : s.targetOf u z = some g) :
    let k := keyTarget g.b (s.newTrim u z d n) ((s.tower u).offsetOf z) (s.tower u).keyMax
    (trimUpdate u z d n s).targetOf u z = some { g with k := k } ∧ SameHandOn (handTarget u z k s) (trimUpdate u z d n s) := by
  obtain ⟨same | ahead | absent, -⟩ | ⟨g', -, -, target', left⟩ := trimUpdate_cases u z d n s
  · exact absurd same changed
  · rw [passed] at ahead
    cases ahead
  · rw [target] at absent
    cases absent
  · obtain rfl := Option.some.inj (target'.symm.trans target)
    rw [left]
    refine ⟨?_, rewriteTarget_sameHandOn u z g' _ (trimmed_sameHandOn ..)⟩
    rw [rewriteTarget_targetOf, if_pos ⟨rfl, rfl⟩]

theorem trimUpdate_targetOf_other {u v : TowerIdx} {z x : ZoneIdx} (other : ¬ (u = v ∧ z = x)) (d : Int) (n : Nat) (s : State) :
    (trimUpdate u z d n s).targetOf v x = s.targetOf v x := by
  have written : (s.stepped u z d n).targetOf v x = s.targetOf v x := targetOf_congr (trimmed_sameContext ..).2.1 v x
  obtain ⟨-, left⟩ | ⟨g, -, -, -, left⟩ := trimUpdate_cases u z d n s
  · rw [left, written]
  · rw [left, ((rewriteTarget_locally u z g _).outside _ v x other).target, written]

/-- Where a trim update leaves the Motion Scheduler, it raises no SETTLED. -/
theorem trimUpdate_settled {u : TowerIdx} {z : ZoneIdx} {d : Int} {n : Nat} {s : State}
    (same : (trimUpdate u z d n s).motion = s.motion) :
    look (trimUpdate u z d n s).notice.records 7 = look s.notice.records 7 := by
  obtain ⟨-, left⟩ | ⟨g, changed, passed, target, -⟩ := trimUpdate_cases u z d n s
  · rw [left]
    exact (trimmed_sameHandOn ..).record
  · obtain ⟨-, handed⟩ := trimUpdate_handed changed passed target
    rw [handed.record, handTarget_record_of_motion (handed.motion.symm.trans same)]

/-! ### The outcomes of the window test -/

/-- An average is in the tolerance window of its tower (R107). -/
def State.inWindow (s : State) (u : TowerIdx) (avg : Nat) : Prop :=
  -((s.tower u).tolLow : Int) ≤ (avg : Int) - (s.tower u).target ∧ (avg : Int) - (s.tower u).target ≤ (s.tower u).tolHigh

section
variable {s : State} {u : TowerIdx} {z : ZoneIdx} {avg : Nat}

theorem windowTest_inside (inside : s.inWindow u avg) : windowTest u z avg s = (s, false) := if_pos inside

theorem windowTest_disarmed (out : ¬ s.inWindow u avg) (disarmed : ¬ look s.trim.armed u = true) :
    windowTest u z avg s = (raise .densityOut (some u) (.zone u z) s, false) := (if_neg out).trans (if_neg disarmed)

theorem windowTest_armed (out : ¬ s.inWindow u avg) (armed : look s.trim.armed u = true) {step : Option Nat}
    (bands : s.trim.stepAt ((avg : Int) - (s.tower u).target).natAbs = step) : windowTest u z avg s
      = match (generalizing := false) step with
        | none => (raise .densityOut (some u) (.zone u z) s, false)
        | some 0 => (s, false)
        | some step => (trimUpdate u z ((avg : Int) - (s.tower u).target) step s, true) := by
  subst bands
  exact (if_neg out).trans (if_pos armed)

theorem windowTest_moved (out : ¬ s.inWindow u avg) (armed : look s.trim.armed u = true) {n : Nat}
    (bands : s.trim.stepAt ((avg : Int) - (s.tower u).target).natAbs = some n) (moves : n ≠ 0) :
    windowTest u z avg s = (trimUpdate u z ((avg : Int) - (s.tower u).target) n s, true) := by
  obtain ⟨m, rfl⟩ := Nat.exists_eq_succ_of_ne_zero moves
  exact windowTest_armed out armed bands

theorem wantedTrim_eq (out : ¬ s.inWindow u avg) (n : Nat) : s.wantedTrim u z ((avg : Int) - (s.tower u).target) n
    = if 0 < (avg : Int) - (s.tower u).target then (s.trimOf u z).trim - n else (s.trimOf u z).trim + n := by
  unfold State.wantedTrim
  split
  · next above => rw [Int.sign_eq_one_of_pos above, Int.one_mul]
  · next below =>
    have under : (avg : Int) - (s.tower u).target < 0 := by
      unfold State.inWindow at out
      omega
    rw [Int.sign_eq_neg_one_of_neg under]
    omega
end

end Sys2Proof.Machine
end

section
/-! PROOF. Density readings (R104 to R106) and the window test with the trim update (R107, R110, R111). -/

set_option Elab.async false

namespace Sys2Proof.Machine

theorem discards_iff {s : State} {u : TowerIdx} {z : ZoneIdx} {arrival : Nat} : discards u z arrival s = true
    ↔ (s.tower u).enabled = false ∨ (∀ m, (s.tower u).zoneMap = some m → m.zones ≤ z.val)
      ∨ (s.tower u).trimPhases.has s.cycle.phase = false ∨ (s.zone u z).state ≠ .atTarget
      ∨ arrival < (s.zone u z).settleUntil := by
  unfold discards
  cases (s.tower u).zoneMap with
  | none => simp
  | some m => simp [or_assoc]

theorem takeReading_counted {s : State} {u : TowerIdx} {z : ZoneIdx} {arrival v : Nat} (read : v ≠ 65535)
    (kept : ¬ discards u z arrival s = true) : takeReading u z arrival v s
      = (scanIfPending s (countReading u z (min v 3000) s).1, (countReading u z (min v 3000) s).2) := by
  rw [takeReading, if_neg read, if_neg kept]

/-- Settles O44: the reading's branches, one by one. -/
theorem readingsAreSkippedDiscardedOrCounted : Obligations.ReadingsAreSkippedDiscardedOrCounted := by
  unfold Obligations.ReadingsAreSkippedDiscardedOrCounted
  intro s u z arrival v
  refine ⟨fun skipped => if_pos skipped, fun read out => ?_, fun read kept below => ?_, fun read kept full => ?_⟩
  · rw [takeReading, if_neg read, if_pos (discards_iff.2 out)]
    rfl
  · have counted : countReading u z (min v 3000) s = _ := if_neg (Nat.ne_of_lt below)
    rw [takeReading_counted read (mt discards_iff.1 kept), counted]
    exact Prod.ext (scanIfPending_none fun _ _ pending => pending) rfl
  · have counted : countReading u z (min v 3000) s = _ := if_pos full
    rw [takeReading_counted read (mt discards_iff.1 kept), counted]
    rfl

/-- Settles O45: the outcomes of the window test, and of the trim update by what its Zone Update does. -/
theorem averageOutOfWindowMovesTheTrim : Obligations.AverageOutOfWindowMovesTheTrim := by
  unfold Obligations.AverageOutOfWindowMovesTheTrim
  intro s u z avg
  dsimp only
  have size : ((avg : Int) - (s.tower u).target).natAbs = (avg - (s.tower u).target) + ((s.tower u).target - avg) := by omega
  rw [← size]
  refine ⟨windowTest_inside, windowTest_disarmed, fun out armed none => windowTest_armed out armed none,
    fun out armed zero => windowTest_armed out armed zero, fun n out armed bands moves => ?_⟩
  rw [← wantedTrim_eq (z := z) out n]
  have moved := windowTest_moved (z := z) out armed bands moves
  generalize (avg : Int) - (s.tower u).target = d at moved
  have passes := (trimUpdate_handing u z d n s).passes.trans (congrArg Engine.passes (trimmed_sameContext ..).2.1)
  refine ⟨trimUpdate u z d n s, moved, trimUpdate_frame _ _ _ _ _, ?_, fun v x other => ?_, ?_, ?_, fun kept => ?_,
    fun clamped => ?_, fun same => trimUpdate_still (.inl same), fun g changed target passed => ?_, fun still => ?_,
    fun v x other => trimUpdate_targetOf_other (not_same_zone other) d n s, passes, trimUpdate_settled, fun k other other' => ?_⟩
  · exact (trimUpdate_trimOf ..).trans (if_pos ⟨rfl, rfl⟩)
  · exact (trimUpdate_trimOf ..).trans (if_neg (not_same_zone other))
  · rw [trimUpdate_saturated, Bool.or_eq_true, decide_eq_true_eq]
    rfl
  · rw [trimUpdate_saturated, trimUpdate_trim]
  · exact (trimUpdate_records u z d n s (by decide)).trans (if_neg fun both => both.1 kept)
  · exact (trimUpdate_records u z d n s (by decide)).trans (if_pos ⟨clamped, rfl⟩)
  · obtain ⟨written, handed⟩ := trimUpdate_handed changed (hasPassed_iff.2 passed) target
    exact ⟨written, handed.motion, handed.record⟩
  · exact trimUpdate_still (.inr (still.imp (fun ahead => Bool.eq_false_iff.2 (mt hasPassed_iff.1 ahead)) id))
  · exact (trimUpdate_records u z d n s other').trans (if_neg fun both => other both.2)

end Sys2Proof.Machine
end

section
/-! PROOF. Density intake (R103, R112). -/

set_option Elab.async false

namespace Sys2Proof.Machine

theorem zoneRun_cons {first n : Nat} (fits : first + (n + 1) ≤ 48) :
    zoneRun first (n + 1) = ⟨first, by omega⟩ :: zoneRun (first + 1) n := by
  refine List.map_injective_iff.2 Fin.val_injective ?_
  rw [List.map_cons, zoneRun_vals fits, zoneRun_vals (by omega)]
  rfl

theorem zoneRun_zero (first : Nat) : zoneRun first 0 = [] := by
  rw [zoneRun, List.filter_eq_nil_iff]
  intro z _
  simp

/-- One reading of a frame, with the flag that gathers whether any gave a non-zero step (R103, R112). -/
def gatherReading (u : TowerIdx) (arrival first : Nat) (vals : List Nat) (q : State × Bool) (z : ZoneIdx) : State × Bool :=
  ((takeReading u z arrival (vals.getD (z.val - first) 0) q.1).1,
    q.2 || (takeReading u z arrival (vals.getD (z.val - first) 0) q.1).2)

/-- The readings of a frame from the `i`th on, as a fold over their zones. -/
theorem takeReadings_eq {u : TowerIdx} {arrival first : Nat} {vals : List Nat} (n i : Nat) (rest : i + n = vals.length)
    (fits : first + vals.length ≤ 48) (s : State) (b : Bool) :
    (zoneRun (first + i) n).foldl (gatherReading u arrival first vals) (s, b)
      = ((takeReadings u arrival (first + i) (vals.drop i) s).1, b || (takeReadings u arrival (first + i) (vals.drop i) s).2) := by
  induction n generalizing i s b with
  | zero =>
    rw [zoneRun_zero, List.drop_eq_nil_of_le (by omega)]
    exact Prod.ext rfl (Bool.or_false b).symm
  | succ n ih =>
    have inside : i < vals.length := by omega
    have zone : zoneOf (first + i) = some ⟨first + i, by omega⟩ := dif_pos (by omega)
    have value : vals.getD (first + i - first) 0 = vals[i] := by
      rw [Nat.add_sub_cancel_left, List.getD_eq_getElem _ _ inside]
    rw [zoneRun_cons (by omega), List.foldl_cons, List.drop_eq_getElem_cons inside]
    have step := ih (i + 1) (by omega)
      (takeReading u ⟨first + i, by omega⟩ arrival vals[i] s).1 (b || (takeReading u ⟨first + i, by omega⟩ arrival vals[i] s).2)
    simp only [takeReadings, zone, gatherReading, value]
    exact step.trans (Prod.ext rfl (Bool.or_assoc _ _ _))

theorem gatherReadings_frame (u : TowerIdx) (arrival first : Nat) (vals : List Nat) (zs : List ZoneIdx) (q : State × Bool) :
    OnlyChanges [.engine, .motion, .trim, .notice] q.1 (zs.foldl (gatherReading u arrival first vals) q).1 := by
  induction zs generalizing q with
  | nil => exact .refl _ _
  | cons z zs ih => exact (takeReading_frame _ _ _ _ _).trans (ih _)

section
variable {p : List Byte} {a first n : Byte} {vals : List Nat} {arrival : Nat} {s : State}

theorem densityOk_length (ok : densityOk p = true) : 3 ≤ p.length ∧ p.length % 2 = 1 := by
  simp only [densityOk, Bool.and_eq_true, decide_eq_true_eq, beq_iff_eq] at ok
  omega

theorem takeDensity_discarded (bad : ¬ densityOk p = true) : takeDensity p arrival s = s := if_neg bad

theorem densityOk_iff (hp : p = [a, first, n] ++ vals.flatMap byte2) : densityOk p = true
    ↔ first.toNat ≤ 47 ∧ 1 ≤ n.toNat ∧ n.toNat ≤ 48 ∧ first.toNat + n.toNat ≤ 48 ∧ vals.length = n.toNat := by
  have length : p.length = 3 + 2 * vals.length := by
    rw [hp, List.length_append, length_flatMap_byte2]
    rfl
  have firstByte : u8 p 1 = first.toNat := by rw [hp]; rfl
  have countByte : u8 p 2 = n.toNat := by rw [hp]; rfl
  simp only [densityOk, length, firstByte, countByte, Bool.and_eq_true, decide_eq_true_eq, beq_iff_eq]
  omega

theorem takeDensity_unnamed (hp : p = [a, first, n] ++ vals.flatMap byte2) (out : ¬ a.toNat < 12) : takeDensity p arrival s = s := by
  have none : towerOf (u8 p 0) = none := by
    rw [hp]
    exact dif_neg out
  rw [takeDensity, none]
  split <;> rfl

theorem takeDensity_taken {u : TowerIdx} (hp : p = [a, first, n] ++ vals.flatMap byte2) (bounded : ∀ v ∈ vals, v < 65536)
    (ok : densityOk p = true) (ha : a.toNat = u.val) : takeDensity p arrival s
      = singleRule u ((zoneRun first.toNat n.toNat).foldl (gatherReading u arrival first.toNat vals) (s, false)).2
        ((zoneRun first.toNat n.toNat).foldl (gatherReading u arrival first.toNat vals) (s, false)).1 := by
  obtain ⟨-, -, -, fits, count⟩ := (densityOk_iff hp).1 ok
  have tower : towerOf (u8 p 0) = some u := by
    rw [hp, show u8 ([a, first, n] ++ vals.flatMap byte2) 0 = u.val from ha, towerOf_val]
  have firstByte : u8 p 1 = first.toNat := by rw [hp]; rfl
  have countByte : u8 p 2 = n.toNat := by rw [hp]; rfl
  have readings : u16s p 3 n.toNat = vals := by
    rw [hp, ← count]
    exact u16s_read [a, first, n] bounded
  have fold := takeReadings_eq (u := u) (arrival := arrival) (first := first.toNat) (vals := vals) n.toNat 0 (by omega) (by omega)
    s false
  rw [Nat.add_zero, List.drop_zero, Bool.false_or] at fold
  rw [fold, takeDensity, if_pos ok, tower]
  simp only [firstByte, countByte, readings]
end

/-- Settles O46: the frame's checks, and its readings as a fold over the run of zones. -/
theorem densityFramesAreTakenReadingByReading : Obligations.DensityFramesAreTakenReadingByReading := by
  unfold Obligations.DensityFramesAreTakenReadingByReading
  refine fun s => ⟨fun none => ?_, fun f arrival rest waits => ?_⟩
  · change Host.Outcome.next (densityFrameTaken s) = _
    rw [densityFrameTaken, none]
  have run : exec .densityFrameTaken s = .next (takeDensity f.payload arrival (s.setLink { s.link with mReceive := rest })) := by
    change Host.Outcome.next (densityFrameTaken s) = _
    rw [densityFrameTaken, waits]
  dsimp only
  rw [run]
  refine ⟨fun short => ?_, fun a first n vals payload bounded => ⟨fun bad => ?_, fun u ok ha => ?_⟩⟩
  · rw [takeDensity_discarded fun ok => ?_]
    have := densityOk_length ok
    omega
  · by_cases named : a.toNat < 12
    · rw [takeDensity_discarded fun ok => bad ⟨named, (densityOk_iff payload).1 ok⟩]
    · rw [takeDensity_unnamed payload named]
  · rw [takeDensity_taken payload bounded ((densityOk_iff payload).2 ok.2) ha]
    have tower := tower_congr (gatherReadings_frame u arrival first.toNat vals (zoneRun first.toNat n.toNat)
      (s.setLink { s.link with mReceive := rest }, false)).jobs u
    rw [singleRule, tower]
    rfl

end Sys2Proof.Machine
end

section
/-! SUPPORT. Zone Updates with the Dispatch Scan that follows (R52, R67, R80), as the statements' hand-on. -/

set_option Elab.async false

namespace Sys2Proof.Machine

theorem allPairs_nodup : allPairs.Nodup := List.Nodup.product (List.nodup_finRange 12) (List.nodup_finRange 48)

/-- The zones stand, and what a hand-on reads of the settings, as they did before something else was written. -/
structure ZonesStand (s w : State) : Prop where
  motion : w.motion = s.motion
  engine : w.engine = s.engine
  cycle : w.cycle = s.cycle
  deadband : ∀ u, (w.tower u).deadband = (s.tower u).deadband
  movePhases : ∀ u, (w.tower u).movePhases = (s.tower u).movePhases

/-- Zone Updates of these zones, in the order given. -/
def updatePairs (l : List (TowerIdx × ZoneIdx)) (s : State) : State := l.foldl (fun s q => zoneUpdate q.1 q.2 s) s

theorem updatePairs_handing (l : List (TowerIdx × ZoneIdx)) (s : State) : Handing s (updatePairs l s) :=
  .foldl (f := fun (q : TowerIdx × ZoneIdx) s => zoneUpdate q.1 q.2 s) (fun q s => zoneUpdate_handing q.1 q.2 s) l s

theorem updatePairs_zones (u : TowerIdx) (zs : List ZoneIdx) (s : State) :
    zoneUpdates u zs s = updatePairs (zs.map fun z => (u, z)) s := by
  rw [updatePairs, List.foldl_map]
  rfl

theorem HandedOn.congr {s s' t t' : State} {u : TowerIdx} {z : ZoneIdx} {g : Target} (h : HandedOn s t u z g)
    (before : (handTarget u z g.k (s'.putTarget u z (some g))).zone u z = (handTarget u z g.k (s.putTarget u z (some g))).zone u z)
    (state : (s'.zone u z).state = (s.zone u z).state) (motion : t'.motion = t.motion) (engine : t'.engine = t.engine)
    (jobs : t'.jobs = t.jobs) (cycle : t'.cycle = t.cycle) : HandedOn s' t' u z g := by
  obtain ⟨target, started, scanned⟩ := h
  refine ⟨(targetOf_congr engine u z).trans target, started.congr before ?_ (zone_congr motion u z), fun other pending => ?_⟩
  · rw [handTarget_targetOf, handTarget_targetOf, putTarget_targetOf, putTarget_targetOf, if_pos ⟨rfl, rfl⟩, if_pos ⟨rfl, rfl⟩]
  · exact (scanned (state ▸ other) (before ▸ pending)).congr motion engine jobs cycle

section
variable {s w : State} (h : ZonesStand s w)
include h

theorem ZonesStand.handed (u : TowerIdx) (z : ZoneIdx) (g : Target) :
    (handTarget u z g.k (w.putTarget u z (some g))).zone u z = (handTarget u z g.k (s.putTarget u z (some g))).zone u z := by
  have zone : (w.putTarget u z (some g)).zone u z = (s.putTarget u z (some g)).zone u z := zone_congr h.motion u z
  have moves : (w.putTarget u z (some g)).moves u z = (s.putTarget u z (some g)).moves u z :=
    moves_congr (congrArg Motion.queue h.motion) u z
  have near : (w.putTarget u z (some g)).withinDeadband u z g.k = (s.putTarget u z (some g)).withinDeadband u z g.k := by
    have deadband : ((w.putTarget u z (some g)).tower u).deadband = ((s.putTarget u z (some g)).tower u).deadband := h.deadband u
    simp only [State.withinDeadband, zone, deadband]
  have phase : (w.putTarget u z (some g)).mayMove u = (s.putTarget u z (some g)).mayMove u := by
    have phases : ((w.putTarget u z (some g)).tower u).movePhases = ((s.putTarget u z (some g)).tower u).movePhases :=
      h.movePhases u
    have cycle : (w.putTarget u z (some g)).cycle = (s.putTarget u z (some g)).cycle := h.cycle
    simp only [State.mayMove, phases, cycle]
  rw [handTarget_zone_eq, handTarget_zone_eq, zone, moves, near, phase]

omit h in
/-- What Zone Updates of pairwise different zones leave: each as its own Zone Update leaves it in `w`, every other as it was. -/
theorem updatePairs_sameAt {l : List (TowerIdx × ZoneIdx)} (once : l.Nodup) :
    (∀ u z, (u, z) ∉ l → SameAt w (updatePairs l w) u z)
      ∧ ∀ u z, (u, z) ∈ l → SameAt (zoneUpdate u z w) (updatePairs l w) u z := by
  have apart : l.Pairwise fun q q' => ∀ u z, atZone q.1 q.2 u z → ¬ atZone q'.1 q'.2 u z :=
    once.imp fun other u z here there => other (Prod.ext (here.1.trans there.1.symm) (here.2.trans there.2.symm))
  obtain ⟨outside, inside⟩ := Locally.foldl (fun q : TowerIdx × ZoneIdx => zoneUpdate_locally q.1 q.2) apart w
  refine ⟨fun u z out => outside u z fun q member here => out ?_, fun u z member => inside (u, z) member u z ⟨rfl, rfl⟩⟩
  rwa [← here.1, ← here.2]

section
variable {l : List (TowerIdx × ZoneIdx)} (once : l.Nodup) {b : State} (motion : b.motion = s.motion)
include once motion

/-- A Zone Update that a pass leaves and that has an E and a B rewrites K and hands it on. -/
theorem updatePairs_handedOn {u : TowerIdx} {z : ZoneIdx} {g : Target} (member : (u, z) ∈ l)
    (passed : (s.pass u).hasPassed z = true) (target : s.targetOf u z = some g) :
    HandedOn s (scanIfPending b (updatePairs l w)) u z
      { g with k := keyTarget g.b (w.trimOf u z).trim ((w.tower u).offsetOf z) (w.tower u).keyMax } := by
  have scanned := scanIfPending_scanned b (updatePairs l w)
  have same := (updatePairs_sameAt (w := w) once).2 u z member
  have pass : w.pass u = s.pass u := congrArg (fun e : Engine => look e.passes u) h.engine
  rw [zoneUpdate_passed ((targetOf_congr h.engine u z).trans target) (by rw [pass, passed])] at same
  generalize key : keyTarget g.b (w.trimOf u z).trim ((w.tower u).offsetOf z) (w.tower u).keyMax = k at same
  have zone : (updatePairs l w).zone u z = (handTarget u z k (s.putTarget u z (some { g with k := k }))).zone u z :=
    same.zone.trans (h.handed u z { g with k := k })
  have written : (updatePairs l w).targetOf u z = some { g with k := k } := by
    rw [same.target, rewriteTarget_targetOf, if_pos ⟨rfl, rfl⟩]
  refine ⟨(scanned.targetOf u z).trans written, (scanned.zones u z).congr zone.symm ?_ rfl, fun other pending => ?_⟩
  · rw [handTarget_targetOf, putTarget_targetOf, if_pos ⟨rfl, rfl⟩, written]
  · have before : (b.zone u z).state ≠ .pending := by rwa [zone_congr motion]
    exact scanIfPending_exhausted (by rw [zone]; exact pending) before

omit motion in
/-- Any other zone keeps its targets, and the scan starts it at most. -/
theorem updatePairs_startedOrSame {u : TowerIdx} {z : ZoneIdx}
    (left : (u, z) ∉ l ∨ (s.pass u).hasPassed z = false ∨ s.targetOf u z = none) :
    (scanIfPending b (updatePairs l w)).targetOf u z = s.targetOf u z
      ∧ StartedOrSame s (scanIfPending b (updatePairs l w)) u z := by
  have scanned := scanIfPending_scanned b (updatePairs l w)
  obtain ⟨outside, inside⟩ := updatePairs_sameAt (w := w) once
  have pass : w.pass u = s.pass u := congrArg (fun e : Engine => look e.passes u) h.engine
  have same : SameAt w (updatePairs l w) u z := by
    by_cases member : (u, z) ∈ l
    · have update : zoneUpdate u z w = w := by
        obtain out | ahead | absent := left
        · exact absurd member out
        · exact zoneUpdate_left (by rw [pass, ahead])
        · exact zoneUpdate_none ((targetOf_congr h.engine u z).trans absent)
      have kept := inside u z member
      rwa [update] at kept
    · exact outside u z member
  have target : (updatePairs l w).targetOf u z = s.targetOf u z := same.target.trans (targetOf_congr h.engine u z)
  exact ⟨(scanned.targetOf u z).trans target,
    (scanned.zones u z).congr (same.zone.trans (zone_congr h.motion u z)).symm target.symm rfl⟩

end

end

/-- What Zone Updates and their scan leave beside the zones. -/
theorem updatePairs_beside (b w : State) (l : List (TowerIdx × ZoneIdx)) :
    (scanIfPending b (updatePairs l w)).engine.passes = w.engine.passes
      ∧ (scanIfPending b (updatePairs l w)).trim = { w.trim with zones := (scanIfPending b (updatePairs l w)).trim.zones }
      ∧ (∀ u z, ((scanIfPending b (updatePairs l w)).trimOf u z).trim = (w.trimOf u z).trim
        ∧ ((scanIfPending b (updatePairs l w)).trimOf u z).lastAverage = (w.trimOf u z).lastAverage)
      ∧ (∀ u z, (w.trimOf u z).resetAveraging = w.trimOf u z → (scanIfPending b (updatePairs l w)).trimOf u z = w.trimOf u z)
      ∧ ∀ k, k ≠ 7 → look (scanIfPending b (updatePairs l w)).notice.records k = look w.notice.records k := by
  have scanned := scanIfPending_scanned b (updatePairs l w)
  have handing := updatePairs_handing l w
  have trimOf : ∀ u z, (updatePairs l w).trimOf u z = w.trimOf u z := fun u z => trimOf_congr handing.frame.trim u z
  refine ⟨?_, ?_, fun u z => ?_, fun u z reset => ?_, fun k other => ?_⟩
  · rw [scanned.frame.engine, handing.passes]
  · rw [scanned.trim, handing.frame.trim]
  · rw [← trimOf]
    exact scanned.trims u z
  · rw [← trimOf] at reset ⊢
    exact scanned.averaging u z reset
  · rw [scanned.notice, handing.records k other]

end Sys2Proof.Machine
end

section
/-! PROOF. Clear Trim (R114). -/

set_option Elab.async false

namespace Sys2Proof.Machine

/-- The trims of these towers cleared, before the Zone Updates (R114). -/
def State.trimsCleared (s : State) (ts : List TowerIdx) : State :=
  s.setTrim { s.trim with
    zones := ztab fun t z => if t ∈ ts then { (s.trimOf t z).resetAveraging with trim := 0 } else s.trimOf t z
    saturated := tab fun t => if t ∈ ts then false else look s.trim.saturated t }

theorem trimsCleared_trimOf (s : State) (ts : List TowerIdx) (u : TowerIdx) (z : ZoneIdx) : (s.trimsCleared ts).trimOf u z
    = if u ∈ ts then ⟨0, 0, 0, (s.trimOf u z).lastAverage⟩ else s.trimOf u z := zlook_ztab ..

theorem clearTrim_named {p : List Byte} {a : Byte} {s : State} (hp : p = [a]) {ts : List TowerIdx}
    (named : towersNamed a.toNat = some ts) : clearTrim p s
      = ⟨scanIfPending s (updatePairs (s.trimmedZones ts) (s.trimsCleared ts)), .ok, byte2 (s.trimmedZones ts).length⟩ := by
  subst hp
  have named' : towersNamed (u8 [a] 0) = some ts := named
  rw [clearTrim, if_neg (by simp)]
  simp only [named']
  rfl

theorem clearTrim_unnamed {p : List Byte} {a : Byte} {s : State} (hp : p = [a]) (unnamed : towersNamed a.toNat = none) :
    clearTrim p s = ⟨s, .range, []⟩ := by
  subst hp
  have unnamed' : towersNamed (u8 [a] 0) = none := unnamed
  rw [clearTrim, if_neg (by simp)]
  simp only [unnamed']
  rfl

/-- Settles O48: the trims cleared, then Zone Updates of the zones whose trim was not 0. -/
theorem clearTrimClearsTheNamedTowers : Obligations.ClearTrimClearsTheNamedTowers := by
  unfold Obligations.ClearTrimClearsTheNamedTowers
  intro s f rest a waits payload
  dsimp only
  refine ⟨takeRequest .clearTrim clearTrim s, rfl, fun ⟨out, other⟩ => ?_, fun inRange => ?_⟩
  · exact takeRequest_refused waits (clearTrim_unnamed payload (towersNamed_eq_none
      (fun all => other (BitVec.eq_of_toNat_eq all)) out))
  obtain ⟨ts, named, member'⟩ := towersNamed_eq_some (inRange.imp id fun all => congrArg BitVec.toNat all)
  have member : ∀ u, u ∈ ts ↔ (a = 0xFF ∨ a.toNat = u.val) := fun u =>
    (member' u).trans (or_congr_left ⟨fun all => BitVec.eq_of_toNat_eq all, fun all => congrArg BitVec.toNat all⟩)
  have reply := clearTrim_named (s := s.taken rest) payload named
  obtain ⟨answered, frame, after⟩ := takeRequest_answered waits clearTrim (bs := [.engine, .motion, .trim, .notice])
    (clearTrim_frame _ _) (by decide)
  rw [reply] at answered after
  dsimp only at answered after
  generalize zones : (s.taken rest).trimmedZones ts = l at answered after
  have stands : ZonesStand s ((s.taken rest).trimsCleared ts) := ⟨rfl, rfl, rfl, fun _ => rfl, fun _ => rfl⟩
  have once : l.Nodup := zones ▸ allPairs_nodup.filter _
  have inside : ∀ u z, (u, z) ∈ l ↔ (a = 0xFF ∨ a.toNat = u.val) ∧ (s.trimOf u z).trim ≠ 0 := fun u z => by
    rw [← zones, State.trimmedZones, List.mem_filter, ← member]
    simp [State.taken, State.trimOf]
  obtain ⟨passes, trim, trims, averaging, records⟩ := updatePairs_beside (s.taken rest) ((s.taken rest).trimsCleared ts) l
  have trimOf := fun u z => trimOf_congr after.trim u z
  refine ⟨frame.mono (by decide), ?_, fun u z named => ?_, fun u z other => ?_, fun u => ?_, ?_, fun u z g updated target => ?_,
    fun u z left => ?_, ?_, fun k other => ?_⟩
  · have counted : (allPairs.filter fun p => (a == 0xFF || a.toNat == p.1.val) && (s.trimOf p.1 p.2).trim != 0) = l := by
      rw [← zones]
      refine List.filter_congr fun p _ => congrArg (· && _) ?_
      rw [Bool.eq_iff_iff, Bool.or_eq_true, beq_iff_eq, beq_iff_eq, decide_eq_true_iff, member]
    rw [counted]
    exact answered
  · rw [trimOf, averaging u z ?_, trimsCleared_trimOf, if_pos ((member u).2 named)]
    · rfl
    · rw [trimsCleared_trimOf, if_pos ((member u).2 named)]
      rfl
  · have kept := trims u z
    rw [trimsCleared_trimOf, if_neg (mt (member u).1 other)] at kept
    rw [trimOf]
    exact kept
  · rw [after.trim, trim]
    change look (tab _) u = true ↔ _
    rw [look_tab, ← member]
    split
    · next there => simp [there]
    · next out =>
      simp only [out, not_false_eq_true, and_true]
      rfl
  · rw [after.trim, trim]
    rfl
  · obtain ⟨named, trimmed, passed⟩ := updated
    have handed := updatePairs_handedOn stands once (b := s.taken rest) rfl ((inside u z).2 ⟨named, trimmed⟩)
      (hasPassed_iff.2 passed) target
    rw [trimsCleared_trimOf, if_pos ((member u).2 named)] at handed
    have key : keyTarget g.b 0 (((s.taken rest).trimsCleared ts).tower u |>.offsetOf z)
        (((s.taken rest).trimsCleared ts).tower u).keyMax
        = (max 0 (min ((s.tower u).keyMax : Int) (g.b + (s.tower u).offsets.getD z.val 0))).toNat := by
      rw [keyTarget, Int.add_zero]
      rfl
    dsimp only at handed
    rw [key] at handed
    exact handed.congr rfl rfl after.motion after.engine after.jobs after.cycle
  · have out : (u, z) ∉ l ∨ (s.pass u).hasPassed z = false ∨ s.targetOf u z = none := by
      rw [inside, ← Bool.not_eq_true, hasPassed_iff, ← or_assoc, ← not_and_or, and_assoc]
      exact left
    obtain ⟨target, started⟩ := updatePairs_startedOrSame stands once (b := s.taken rest) out
    exact ⟨(targetOf_congr after.engine u z).trans target, started.congr rfl rfl (zone_congr after.motion u z)⟩
  · rw [after.engine, passes]
    rfl
  · rw [after.notice, records k other]
    rfl

end Sys2Proof.Machine
end

section
/-! SUPPORT. A record written by a load request with what is then handed on for the RUNNING slot (R16, R23, R25, R69). -/

set_option Elab.async false

namespace Sys2Proof.Machine

/-- Slot `j` with the record of tower `u` replaced and its readiness re-evaluated (R16, R20, R21). -/
def State.rewritten (s : State) (j : SlotIdx) (u : TowerIdx) (r : TowerSettings) : State :=
  readinessEvaluation j (writeRecord j u r s)

theorem rewritten_frame (s : State) (j : SlotIdx) (u : TowerIdx) (r : TowerSettings) : OnlyChanges [.jobs] s (s.rewritten j u r) :=
  readiness_write_frame j u r s

theorem rewritten_written (s : State) (j : SlotIdx) (u : TowerIdx) (r : TowerSettings) :
    SlotWritten s (s.rewritten j u r) j (s.withRecord j u r) := slotWritten_record j u r s

/-- A request that writes a record and hands it on with `F` where its slot is RUNNING. -/
theorem takeRequest_handedOn {s : State} {k : RequestKind} {f : Frame} {rest : List Frame} (h : Waits s k f rest)
    {g : List Byte → State → Reply} {j : SlotIdx} {u : TowerIdx} {r : TowerSettings} {extra : List Byte} {F : State → State}
    {bs : List Block} (unarmed : (look s.jobs j).inRole .armed = false)
    (hg : ∀ w, w = (if s.isRunning j then F ((s.taken rest).rewritten j u r) else (s.taken rest).rewritten j u r) →
      g f.payload (s.taken rest) = ⟨w, .ok, loadAnswer j u w ++ extra⟩)
    (frame : ∀ w, OnlyChanges bs w (F w)) (link : Block.link ∉ bs := by decide) (jobs : Block.jobs ∉ bs := by decide) :
    Answered s f rest 0 (loadAnswer j u (takeRequest k g s) ++ extra) (takeRequest k g s)
      ∧ JobWritten s (takeRequest k g s) j (look s.jobs j).job.label (s.withRecord j u r)
      ∧ (s.isRunning j = false → OnlyChanges [.jobs, .link] s (takeRequest k g s))
      ∧ (s.isRunning j = true → OnlyChanges (.jobs :: .link :: bs) s (takeRequest k g s)
        ∧ OnlyChanges [.link] (F ((s.taken rest).rewritten j u r)) (takeRequest k g s)) := by
  have written := rewritten_frame (s.taken rest) j u r
  cases running : s.isRunning j with
  | false =>
    rw [running] at hg
    obtain ⟨answered, changes, after⟩ := takeRequest_load h (hg _ rfl) written (by decide)
    exact ⟨answered, jobWritten_of_readiness_write (s := s.taken rest) unarmed after.jobs,
      fun _ => changes.mono (by decide), nofun⟩
  | true =>
    rw [running] at hg
    have both : OnlyChanges (.jobs :: bs) (s.taken rest) (F ((s.taken rest).rewritten j u r)) :=
      (written.mono (by simp)).trans ((frame _).mono (by simp))
    obtain ⟨answered, changes, after⟩ := takeRequest_load h (hg _ rfl) both (by simp [link])
    refine ⟨answered, jobWritten_of_readiness_write (s := s.taken rest) unarmed (after.jobs.trans ?_), nofun,
      fun _ => ⟨changes.mono (by simp), after⟩⟩
    exact (frame _).jobs jobs

theorem ZonesStand.of_taken {s w : State} {rest : List Frame} (h : ZonesStand (s.taken rest) w) : ZonesStand s w :=
  ⟨h.motion, h.engine, h.cycle, h.deadband, h.movePhases⟩

/-- The zones stand where a record is written that keeps what a hand-on reads of it. -/
theorem zonesStand_rewritten {s : State} {j : SlotIdx} {u : TowerIdx} {r : TowerSettings}
    (deadband : r.deadband = (s.record j u).deadband) (movePhases : r.movePhases = (s.record j u).movePhases) :
    ZonesStand s (s.rewritten j u r) where
  motion := (rewritten_frame s j u r).motion
  engine := (rewritten_frame s j u r).engine
  cycle := (rewritten_frame s j u r).cycle
  deadband := (rewritten_written s j u r).field TowerSettings.deadband deadband
  movePhases := (rewritten_written s j u r).field TowerSettings.movePhases movePhases

end Sys2Proof.Machine
end

section
/-! SUPPORT. Set Targets (R25, R116) and Set Offsets (R69, R70): the payloads and the cases. -/

set_option Elab.async false

namespace Sys2Proof.Machine

/-! ### Set Targets -/

/-- The payload of a Set Targets carries slot `j`, tower `u` and these seven fields (R160). -/
structure CarriesTargets (p : List Byte) (j : SlotIdx) (u : TowerIdx) (target low high count settle limit : Nat)
    (mode : TrimMode) : Prop where
  length : p.length = 13
  slot : u8 p 0 = j.val
  tower : u8 p 1 = u.val
  target : u16 p 2 = target
  tolLow : u16 p 4 = low
  tolHigh : u16 p 6 = high
  avgCount : u8 p 8 = count
  settleSheets : u8 p 9 = settle
  trimLimit : u16 p 10 = limit
  trimMode : u8 p 12 = mode.num

/-- The trims of a tower clamped to a limit and its averaging reset, Trim Saturated set where the clamp changed one (R116). -/
def State.trimsClamped (s : State) (u : TowerIdx) (limit : Nat) : State :=
  s.setTrim { s.trim with
    zones := ztab fun v z =>
      if v = u then { (s.trimOf v z).resetAveraging with trim := clampTrim limit (s.trimOf v z).trim } else s.trimOf v z
    saturated := if (s.zonesBeyond u limit).isEmpty then s.trim.saturated else put s.trim.saturated u true }

section
variable {p : List Byte} {j : SlotIdx} {u : TowerIdx} {target low high count settle limit : Nat} {mode : TrimMode} {s : State}

theorem carriesTargets_of_payload (ht : target < 65536) (hl : low < 65536) (hh : high < 65536) (hc : count < 256)
    (hs : settle < 256) (hm : limit < 65536)
    (hp : p = byte1 j.val ++ byte1 u.val ++ byte2 target ++ byte2 low ++ byte2 high ++ byte1 count ++ byte1 settle
      ++ byte2 limit ++ byte1 mode.num) : CarriesTargets p j u target low high count settle limit mode := by
  subst hp
  constructor
  case length => rfl
  case slot => exact Nat.mod_eq_of_lt (by omega)
  case tower => exact Nat.mod_eq_of_lt (by omega)
  case target => exact byte2_read ht
  case tolLow => exact byte2_read hl
  case tolHigh => exact byte2_read hh
  case avgCount => exact Nat.mod_eq_of_lt hc
  case settleSheets => exact Nat.mod_eq_of_lt hs
  case trimLimit => exact byte2_read hm
  case trimMode => cases mode <;> rfl

theorem setTargets_accepted (h : CarriesTargets p j u target low high count settle limit mode) (ht : target ≤ 3000)
    (hl : low ≤ 500) (hh : high ≤ 500) (some : 1 ≤ count) (few : count ≤ 16) (hm : limit ≤ 1000)
    (unarmed : (look s.jobs j).inRole .armed = false) {new : TowerSettings}
    (record : new = { s.record j u with
      target := target, tolLow := low, tolHigh := high, avgCount := count, settleSheets := settle, trimLimit := limit,
      trimMode := mode }) (w : State)
    (left : w = if s.isRunning j then handOnTargets u limit (s.rewritten j u new) else s.rewritten j u new) :
    setTargets p s = ⟨w, .ok, loadAnswer j u w ++ []⟩ := by
  have modeRead : (if mode.num = 0 then TrimMode.continuous else .single) = mode := by cases mode <;> rfl
  have flag : isFlag mode.num = true := by cases mode <;> rfl
  have ok : targetsOk p = true := by
    simp only [targetsOk, h.target, h.tolLow, h.tolHigh, h.avgCount, h.trimLimit, h.trimMode, flag, ht, hl, hh, some, few, hm,
      decide_true, Bool.and_self]
  have carried : (s.record j u).retargeted p = new := by
    simp only [TowerSettings.retargeted, h.target, h.tolLow, h.tolHigh, h.avgCount, h.settleSheets, h.trimLimit, h.trimMode,
      modeRead, record]
  rw [setTargets, if_neg (not_not.2 h.length), left, ← carried, ← h.trimLimit]
  exact loadRequest_accepted h.slot h.tower ok unarmed rfl

theorem mem_zonesBeyond {z : ZoneIdx} : z ∈ s.zonesBeyond u limit ↔ clampTrim limit (s.trimOf u z).trim ≠ (s.trimOf u z).trim := by
  have beyond : ∀ x : Int, beyondLimit limit x = true ↔ clampTrim limit x ≠ x := fun x => by
    simp only [beyondLimit, clampTrim, clampInt, Bool.or_eq_true, decide_eq_true_eq]
    omega
  rw [State.zonesBeyond, List.mem_filter, beyond]
  simp

theorem handOnTargets_eq : handOnTargets u limit s
    = scanIfPending s (updatePairs ((s.zonesBeyond u limit).map fun z => (u, z)) (s.trimsClamped u limit)) := by
  rw [← updatePairs_zones]
  rfl

theorem trimsClamped_trimOf (v : TowerIdx) (z : ZoneIdx) : (s.trimsClamped u limit).trimOf v z
    = if v = u then ⟨clampTrim limit (s.trimOf v z).trim, 0, 0, (s.trimOf v z).lastAverage⟩ else s.trimOf v z := zlook_ztab ..

theorem trimsClamped_saturated (v : TowerIdx) : look (s.trimsClamped u limit).trim.saturated v = true
    ↔ look s.trim.saturated v = true ∨ v = u ∧ ∃ z, clampTrim limit (s.trimOf u z).trim ≠ (s.trimOf u z).trim := by
  change look (if (s.zonesBeyond u limit).isEmpty then s.trim.saturated else put s.trim.saturated u true) v = true ↔ _
  by_cases none : (s.zonesBeyond u limit).isEmpty = true
  · rw [if_pos none]
    refine ⟨.inl, fun h => h.elim id fun ⟨_, z, beyond⟩ => ?_⟩
    have member := mem_zonesBeyond.2 beyond
    rw [List.isEmpty_iff.1 none] at member
    cases member
  · obtain ⟨z, member⟩ := List.exists_mem_of_ne_nil _ fun empty => none (List.isEmpty_iff.2 empty)
    rw [if_neg none, look_put]
    split
    · next here => exact ⟨fun _ => .inr ⟨here.symm, z, mem_zonesBeyond.1 member⟩, fun _ => rfl⟩
    · next other => exact ⟨.inl, fun h => h.elim id fun both => absurd both.1.symm other⟩
end

end Sys2Proof.Machine
end

section
/-! PROOF. Set Targets (R25, R116). -/

set_option Elab.async false

namespace Sys2Proof.Machine

/-- What the hand-on of a Set Targets leaves beside the zones. -/
theorem handOnTargets_beside (u : TowerIdx) (limit : Nat) (b : State) :
    (∀ z, (handOnTargets u limit b).trimOf u z = ⟨clampTrim limit (b.trimOf u z).trim, 0, 0, (b.trimOf u z).lastAverage⟩)
      ∧ (∀ v z, v ≠ u → ((handOnTargets u limit b).trimOf v z).trim = (b.trimOf v z).trim
        ∧ ((handOnTargets u limit b).trimOf v z).lastAverage = (b.trimOf v z).lastAverage)
      ∧ (∀ v, look (handOnTargets u limit b).trim.saturated v = true ↔ look b.trim.saturated v = true
        ∨ v = u ∧ ∃ z, clampTrim limit (b.trimOf u z).trim ≠ (b.trimOf u z).trim)
      ∧ (handOnTargets u limit b).trim.armed = b.trim.armed
      ∧ (handOnTargets u limit b).engine.passes = b.engine.passes
      ∧ ∀ k, k ≠ 7 → look (handOnTargets u limit b).notice.records k = look b.notice.records k := by
  rw [handOnTargets_eq]
  obtain ⟨passes, trim, trims, averaging, records⟩ := updatePairs_beside b (b.trimsClamped u limit)
    ((b.zonesBeyond u limit).map fun z => (u, z))
  refine ⟨fun z => ?_, fun v z other => ?_, fun v => ?_, ?_, passes, records⟩
  · rw [averaging u z (by rw [trimsClamped_trimOf, if_pos rfl]; rfl), trimsClamped_trimOf, if_pos rfl]
  · have kept := trims v z
    rwa [trimsClamped_trimOf, if_neg other] at kept
  · rw [trim]
    exact trimsClamped_saturated v
  · rw [trim]
    rfl

theorem mem_pairsBeyond {u v : TowerIdx} {z : ZoneIdx} {limit : Nat} {b : State} :
    (v, z) ∈ (b.zonesBeyond u limit).map (fun z => (u, z)) ↔ v = u ∧ clampTrim limit (b.trimOf u z).trim ≠ (b.trimOf u z).trim := by
  simp only [List.mem_map, mem_zonesBeyond, Prod.mk.injEq]
  exact ⟨fun ⟨x, beyond, tower, zone⟩ => ⟨tower.symm, zone ▸ beyond⟩, fun ⟨tower, beyond⟩ => ⟨z, beyond, tower.symm, rfl⟩⟩

theorem pairsBeyond_nodup (u : TowerIdx) (limit : Nat) (b : State) : ((b.zonesBeyond u limit).map fun z => (u, z)).Nodup :=
  (allZones_nodup.filter _).map fun _ _ same => congrArg Prod.snd same

/-- What the hand-on of a Set Targets on the RUNNING slot leaves of the zones, the record already written in `b`. -/
theorem handOnTargets_zones {s b : State} {u : TowerIdx} {limit : Nat} {new : TowerSettings} (base : ZonesStand s b)
    (trimOf : ∀ v z, b.trimOf v z = s.trimOf v z) (inForce : b.tower u = new) :
    (∀ z g, clampTrim limit (s.trimOf u z).trim ≠ (s.trimOf u z).trim → (s.pass u).hasPassed z = true →
        s.targetOf u z = some g →
        HandedOn s (handOnTargets u limit b) u z
          { g with k := keyTarget g.b (clampTrim limit (s.trimOf u z).trim) (new.offsetOf z) new.keyMax })
      ∧ ∀ v z, (v ≠ u ∨ ¬ (clampTrim limit (s.trimOf u z).trim ≠ (s.trimOf u z).trim ∧ (s.pass u).hasPassed z = true)
          ∨ s.targetOf v z = none) →
        (handOnTargets u limit b).targetOf v z = s.targetOf v z ∧ StartedOrSame s (handOnTargets u limit b) v z := by
  have stands : ZonesStand s (b.trimsClamped u limit) := ⟨base.motion, base.engine, base.cycle, base.deadband, base.movePhases⟩
  have tower : (b.trimsClamped u limit).tower u = new := inForce
  have once := pairsBeyond_nodup u limit b
  rw [handOnTargets_eq]
  refine ⟨fun z g clamps passed target => ?_, fun v z left => updatePairs_startedOrSame stands once ?_⟩
  · have handedOn := updatePairs_handedOn stands once base.motion
      (mem_pairsBeyond.2 ⟨rfl, by rwa [trimOf]⟩) passed target
    rwa [trimsClamped_trimOf, if_pos rfl, trimOf, tower] at handedOn
  · rw [mem_pairsBeyond, trimOf, ← Bool.not_eq_true]
    by_cases here : v = u
    · subst here
      rw [← or_assoc, ← not_and_or, and_assoc]
      exact (left.resolve_left (not_not.2 rfl)).imp (fun h both => h ⟨both.2.1, both.2.2⟩) id
    · exact .inl fun both => here both.1

/-- Settles O26: the record written, the trims clamped, and Zone Updates of the zones whose trim the clamp changed. -/
theorem setTargetsWritesAndClampsTrims : Obligations.SetTargetsWritesAndClampsTrims := by
  unfold Obligations.SetTargetsWritesAndClampsTrims
  intro s f rest j u target low high count settle limit mode waits ht hl hh some few hs hm payload unarmed
  have carries := carriesTargets_of_payload (by omega) (by omega) (by omega) (by omega) (by omega) (by omega) payload
  intro new clamped updated
  obtain ⟨answered, written, stopped, handed⟩ := takeRequest_handedOn waits (r := new) (F := handOnTargets u limit) unarmed
    (setTargets_accepted (s := s.taken rest) carries ht hl hh some few hm unarmed rfl) (handOnTargets_frame u limit)
  rw [List.append_nil] at answered
  refine ⟨takeRequest .setTargets setTargets s, rfl, answered, written, stopped, fun running => ?_⟩
  obtain ⟨frame, after⟩ := handed (isRunning_of_runningSlot running)
  have blocks := rewritten_frame (s.taken rest) j u new
  have base := (zonesStand_rewritten (s := s.taken rest) (j := j) (u := u) (r := new) rfl rfl).of_taken
  have inForce := ((rewritten_written (s.taken rest) j u new).tower_running running u).trans (if_pos rfl)
  have trimOf : ∀ v z, ((s.taken rest).rewritten j u new).trimOf v z = s.trimOf v z := fun v z => trimOf_congr blocks.trim v z
  have saturatedOf := congrArg Trim.saturated blocks.trim
  have armedOf := congrArg Trim.armed blocks.trim
  have passesOf := congrArg Engine.passes blocks.engine
  have recordOf := congrArg (fun x : NoticeUnit => look x.records 4) blocks.notice
  generalize (s.taken rest).rewritten j u new = b at after trimOf base inForce saturatedOf armedOf passesOf recordOf
  obtain ⟨own, others, saturated, armed, passes, records⟩ := handOnTargets_beside u limit b
  obtain ⟨handedOn, left⟩ := handOnTargets_zones (limit := limit) base trimOf inForce
  have after' := fun v z => trimOf_congr after.trim v z
  refine ⟨frame.mono (by decide), fun z => ?_, fun v z other => ?_, ?_, fun v other => ?_, ?_, fun z g update present => ?_,
    fun v z out => ?_, ?_, ?_⟩
  · rw [after', own, trimOf]
    rfl
  · rw [after', ← trimOf]
    exact others v z other
  · rw [after.trim, saturated, saturatedOf]
    simp only [trimOf, true_and]
    rfl
  · rw [Bool.eq_iff_iff, after.trim, saturated, saturatedOf]
    simp only [other, false_and, or_false]
    rfl
  · rw [after.trim, armed, armedOf]
    rfl
  · exact (handedOn z g update.1 (hasPassed_iff.2 update.2) present).congr rfl rfl after.motion after.engine after.jobs after.cycle
  · obtain ⟨targets, started⟩ := left v z (out.imp id (Or.imp (fun h both => h ⟨both.1, hasPassed_iff.1 both.2⟩) id))
    exact ⟨(targetOf_congr after.engine v z).trans targets, started.congr rfl rfl (zone_congr after.motion v z)⟩
  · rw [after.engine, passes, passesOf]
    rfl
  · rw [after.notice, records 4 (by decide), recordOf]
    rfl

end Sys2Proof.Machine
end

section
/-! PROOF. Set Offsets (R69, R70). -/

set_option Elab.async false

namespace Sys2Proof.Machine

/-- The payload of a Set Offsets carries slot `j`, tower `u`, the first zone and the values (R160). -/
structure CarriesOffsets (p : List Byte) (j : SlotIdx) (u : TowerIdx) (first : Nat) (vals : List Int) : Prop where
  length : p.length = 4 + 2 * vals.length
  slot : u8 p 0 = j.val
  tower : u8 p 1 = u.val
  first : u8 p 2 = first
  count : u8 p 3 = vals.length
  vals : s16s p 4 vals.length = vals

/-- A signed value is read back from its two bytes. -/
theorem signed16_read {v : Int} (least : -32768 ≤ v) (most : v ≤ 32767) : signed16 (v % 65536).toNat = v := by
  unfold signed16
  split <;> omega

section
variable {p : List Byte} {j : SlotIdx} {u : TowerIdx} {first : Nat} {vals : List Int} {s : State}

theorem carriesOffsets_of_payload (hf : first < 256) (hn : vals.length < 256) (range : ∀ v ∈ vals, -32768 ≤ v ∧ v ≤ 32767)
    (hp : p = byte1 j.val ++ byte1 u.val ++ byte1 first ++ byte1 vals.length
      ++ vals.flatMap (fun v => byte2 (v % 65536).toNat)) : CarriesOffsets p j u first vals := by
  have words : vals.flatMap (fun v => byte2 (v % 65536).toNat) = (vals.map fun v => (v % 65536).toNat).flatMap byte2 := by
    rw [List.flatMap_map]
  have bounded : ∀ n ∈ vals.map fun v => (v % 65536).toNat, n < 65536 := fun n there => by
    obtain ⟨v, -, rfl⟩ := List.mem_map.1 there
    omega
  have read := u16s_read (byte1 j.val ++ byte1 u.val ++ byte1 first ++ byte1 vals.length) bounded
  rw [List.length_map] at read
  rw [words] at hp
  constructor
  case length =>
    rw [hp, List.length_append, length_flatMap_byte2, List.length_map]
    rfl
  case slot =>
    rw [hp]
    exact Nat.mod_eq_of_lt (by omega)
  case tower =>
    rw [hp]
    exact Nat.mod_eq_of_lt (by omega)
  case first =>
    rw [hp]
    exact Nat.mod_eq_of_lt hf
  case count =>
    rw [hp]
    exact Nat.mod_eq_of_lt hn
  case vals =>
    rw [hp, s16s, show (4 : Nat) = (byte1 j.val ++ byte1 u.val ++ byte1 first ++ byte1 vals.length).length from rfl, read,
      List.map_map]
    refine (List.map_congr_left fun v there => ?_).trans (List.map_id _)
    exact signed16_read (range v there).1 (range v there).2

theorem setOffsets_out_of_range (h : CarriesOffsets p j u first vals) (out : ¬(first ≤ 47 ∧ 1 ≤ vals.length ∧ vals.length ≤ 48)) :
    setOffsets p s = ⟨s, .range, loadAnswer j u s⟩ := by
  have length := h.length
  unfold setOffsets
  simp only [h.count, h.first]
  rw [if_neg (by omega)]
  by_cases count : vals.length < 1 ∨ 48 < vals.length
  · rw [if_pos count, loadFields_eq h.slot h.tower]
  · rw [if_neg count, if_neg (by omega), loadRequest_out_of_range h.slot h.tower (decide_eq_false (by omega)), List.append_nil]

theorem setOffsets_counted (h : CarriesOffsets p j u first vals) (few : 1 ≤ vals.length ∧ vals.length ≤ 48) :
    setOffsets p s = loadRequest p (first ≤ 47) [] (offsetsBody p s) s := by
  have length := h.length
  unfold setOffsets
  simp only [h.count, h.first]
  rw [if_neg (by omega), if_neg (by omega), if_neg (by omega)]

/-- What an accepted Set Offsets writes into the record (R70). -/
def TowerSettings.withOffsets (r : TowerSettings) (first : Nat) (vals : List Int) : TowerSettings :=
  { r with offsets := writeOffsets r.offsets first vals }

/-- The Zone Updates of a Set Offsets on the RUNNING slot, with their scan (R70, R80). -/
def handOnOffsets (u : TowerIdx) (first n : Nat) (s : State) : State := scanIfPending s (zoneUpdates u (zoneRun first n) s)

theorem handOnOffsets_frame (u : TowerIdx) (first n : Nat) (s : State) :
    OnlyChanges [.engine, .motion, .trim, .notice] s (handOnOffsets u first n s) :=
  OnlyChanges.trans ((zoneUpdates_frame _ _ _).mono (by decide)) ((scanIfPending_frame _ _).mono (by decide))

theorem offsetsBody_unmapped (none : (s.record j u).zoneMap = none) :
    offsetsBody p s j u = .refuse .state := by
  simp only [offsetsBody, none]

theorem offsetsBody_beyond (h : CarriesOffsets p j u first vals) {m : ZoneMap} (map : (s.record j u).zoneMap = some m)
    (beyond : m.zones < first + vals.length) : offsetsBody p s j u = .refuse .range := by
  simp only [offsetsBody, map, h.first, h.count, if_pos beyond]

theorem offsetsBody_written (h : CarriesOffsets p j u first vals) {m : ZoneMap} (map : (s.record j u).zoneMap = some m)
    (fits : first + vals.length ≤ m.zones) : offsetsBody p s j u = .accept
      (if s.isRunning j then handOnOffsets u first vals.length (s.rewritten j u ((s.record j u).withOffsets first vals))
        else s.rewritten j u ((s.record j u).withOffsets first vals))
      (byte1 (vals.filter fun v => clampOffset v != v).length) := by
  unfold offsetsBody
  dsimp only
  split
  · next absent =>
    rw [map] at absent
    cases absent
  · next m' map' =>
    obtain rfl := Option.some.inj (map.symm.trans map')
    rw [h.first, h.count, h.vals, if_neg fits.not_gt]
    rfl
end

theorem writeOffsets_length (old : List Int) (first : Nat) (vals : List Int) :
    (writeOffsets old first vals).length = old.length := by
  simp [writeOffsets]

theorem writeOffsets_getD {old : List Int} {first : Nat} {vals : List Int} {i : Nat} (inside : i < old.length) :
    (writeOffsets old first vals).getD i 0
      = if first ≤ i ∧ i < first + vals.length then clampOffset (vals.getD (i - first) 0) else old.getD i 0 := by
  rw [List.getD_eq_getElem _ _ (by rwa [writeOffsets_length])]
  simp [writeOffsets]

theorem mem_zoneRun {first n : Nat} {z : ZoneIdx} : z ∈ zoneRun first n ↔ first ≤ z.val ∧ z.val < first + n := by
  simp [zoneRun]

/-- What the hand-on of a Set Offsets on the RUNNING slot leaves of the zones, the record already written in `b`. -/
theorem handOnOffsets_zones {s b : State} {u : TowerIdx} {first n : Nat} {new : TowerSettings} (stands : ZonesStand s b)
    (trimOf : ∀ v z, b.trimOf v z = s.trimOf v z) (inForce : b.tower u = new) :
    (∀ z g, first ≤ z.val → z.val < first + n → (s.pass u).hasPassed z = true → s.targetOf u z = some g →
        HandedOn s (handOnOffsets u first n b) u z
          { g with k := keyTarget g.b (s.trimOf u z).trim (new.offsetOf z) new.keyMax })
      ∧ ∀ v z, (v ≠ u ∨ ¬ (first ≤ z.val ∧ z.val < first + n ∧ (s.pass u).hasPassed z = true) ∨ s.targetOf v z = none) →
        (handOnOffsets u first n b).targetOf v z = s.targetOf v z ∧ StartedOrSame s (handOnOffsets u first n b) v z := by
  have once : ((zoneRun first n).map fun z => (u, z)).Nodup :=
    (allZones_nodup.filter _).map fun _ _ same => congrArg Prod.snd same
  have member : ∀ v z, (v, z) ∈ (zoneRun first n).map (fun z => (u, z)) ↔ v = u ∧ first ≤ z.val ∧ z.val < first + n := fun v z => by
    simp only [List.mem_map, mem_zoneRun, Prod.mk.injEq]
    exact ⟨fun ⟨x, inside, tower, zone⟩ => ⟨tower.symm, zone ▸ inside⟩, fun ⟨tower, inside⟩ => ⟨z, inside, tower.symm, rfl⟩⟩
  rw [handOnOffsets, updatePairs_zones]
  refine ⟨fun z g least most passed target => ?_, fun v z left => updatePairs_startedOrSame stands once ?_⟩
  · have handedOn := updatePairs_handedOn stands once stands.motion ((member u z).2 ⟨rfl, least, most⟩) passed target
    rwa [trimOf, inForce] at handedOn
  · rw [member, ← Bool.not_eq_true]
    by_cases here : v = u
    · subst here
      rw [← or_assoc, ← not_and_or, and_assoc, and_assoc]
      exact (left.resolve_left (not_not.2 rfl)).imp (fun h all => h all.2) id
    · exact .inl fun all => here all.1

/-- Settles O28: the checks in order, then the offsets written and Zone Updates of the run. -/
theorem setOffsetsWritesClampedOffsets : Obligations.SetOffsetsWritesClampedOffsets := by
  unfold Obligations.SetOffsetsWritesClampedOffsets
  intro s f rest j u first vals waits hf hn range payload
  have carries := carriesOffsets_of_payload hf hn range payload
  intro inRange armed old clamp updated refused
  have refuses : ∀ {code : ResultCode}, setOffsets f.payload (s.taken rest) = ⟨s.taken rest, code, loadAnswer j u (s.taken rest)⟩ →
      refused code.num (takeRequest .setOffsets setOffsets s) := fun reply => takeRequest_refused waits reply
  have counted (h : inRange) := setOffsets_counted (s := s.taken rest) carries h.2
  have fields (h : inRange) : decide (first ≤ 47) = true := decide_eq_true h.1
  refine ⟨takeRequest .setOffsets setOffsets s, rfl, fun out => refuses (setOffsets_out_of_range carries out),
    fun inside busy => refuses (code := .busy) ?_, fun inside free none => refuses (code := .state) ?_,
    fun m inside free map beyond => refuses (code := .range) ?_,
    fun m inside free map fits => ?_⟩
  · rw [counted inside, loadRequest_armed (s := s.taken rest) carries.slot carries.tower (fields inside) busy, List.append_nil]
  · rw [counted inside, loadRequest_refused (s := s.taken rest) carries.slot carries.tower (fields inside) (Bool.eq_false_iff.2 free)
      (offsetsBody_unmapped (s := s.taken rest) none), List.append_nil]
  · rw [counted inside, loadRequest_refused (s := s.taken rest) carries.slot carries.tower (fields inside) (Bool.eq_false_iff.2 free)
      (offsetsBody_beyond (s := s.taken rest) carries map beyond), List.append_nil]
  have unarmed : (look s.jobs j).inRole .armed = false := Bool.eq_false_iff.2 free
  obtain ⟨answered, written, stopped, handed⟩ := takeRequest_handedOn waits (g := setOffsets) (j := j) (u := u) (r := old.withOffsets first vals)
    (F := handOnOffsets u first vals.length) (extra := byte1 (vals.filter fun v => clampOffset v != v).length) unarmed
    (fun w left => by
      rw [counted inside, left]
      exact loadRequest_accepted (s := s.taken rest) carries.slot carries.tower (fields inside) unarmed
        (offsetsBody_written (s := s.taken rest) carries map fits))
    (handOnOffsets_frame u first vals.length)
  have changes : (vals.filter fun v => decide (clamp v ≠ v)) = vals.filter fun v => clampOffset v != v :=
    List.filter_congr fun v _ => by rw [Bool.eq_iff_iff, decide_eq_true_eq, bne_iff_ne]; rfl
  refine ⟨writeOffsets old.offsets first vals, writeOffsets_length .., fun i inside => ?_, written, ?_, stopped,
    fun running => ?_⟩
  · rw [writeOffsets_length] at inside
    exact writeOffsets_getD inside
  · rw [changes]
    exact answered
  obtain ⟨frame, after⟩ := handed (isRunning_of_runningSlot running)
  have blocks := rewritten_frame (s.taken rest) j u (old.withOffsets first vals)
  have stands := (zonesStand_rewritten (s := s.taken rest) (j := j) (u := u) (r := old.withOffsets first vals) rfl rfl).of_taken
  have inForce := ((rewritten_written (s.taken rest) j u (old.withOffsets first vals)).tower_running running u).trans (if_pos rfl)
  have trimOf : ∀ v z, ((s.taken rest).rewritten j u (old.withOffsets first vals)).trimOf v z = s.trimOf v z := fun v z =>
    trimOf_congr blocks.trim v z
  obtain ⟨handedOn, left⟩ := handOnOffsets_zones (first := first) (n := vals.length) stands trimOf inForce
  obtain ⟨passes, -, trims, -⟩ := updatePairs_beside ((s.taken rest).rewritten j u (old.withOffsets first vals))
    ((s.taken rest).rewritten j u (old.withOffsets first vals)) ((zoneRun first vals.length).map fun z => (u, z))
  rw [← updatePairs_zones] at passes trims
  refine ⟨frame.mono (by decide), fun z g ⟨least, most, passed⟩ present => ?_, fun v z out => ?_, ?_, fun v z => ?_⟩
  · exact (handedOn z g least most (hasPassed_iff.2 passed) present).congr rfl rfl after.motion after.engine after.jobs after.cycle
  · obtain ⟨targets, started⟩ := left v z
      (out.imp id (Or.imp (fun h all => h ⟨all.1, all.2.1, hasPassed_iff.1 all.2.2⟩) id))
    exact ⟨(targetOf_congr after.engine v z).trans targets, started.congr rfl rfl (zone_congr after.motion v z)⟩
  · rw [after.engine]
    exact passes.trans (congrArg Engine.passes blocks.engine)
  · rw [trimOf_congr after.trim]
    exact (trims v z).1.trans (congrArg TrimZone.trim (trimOf v z))

end Sys2Proof.Machine
end

section
/-! SUPPORT. Zone Computations (R56 to R59), the completion of a pass (R61, R62) and the Hold Tower Set (R129, R130). -/

set_option Elab.async false

namespace Sys2Proof.Machine

/-! ### What a later change leaves of the zones and of what a Dispatch Scan would find -/

/-- The zones, their targets and what a Dispatch Scan reads are the same in both states. -/
structure SameScan (s t : State) : Prop where
  motion : t.motion = { s.motion with queue := t.motion.queue, watch := t.motion.watch }
  targets : t.engine.targets = s.engine.targets
  jobs : t.jobs = s.jobs
  phase : t.cycle.phase = s.cycle.phase

section
variable {s t : State} (h : SameScan s t)
include h

theorem SameScan.zone (u : TowerIdx) (z : ZoneIdx) : t.zone u z = s.zone u z := by
  rw [State.zone, h.motion]
  rfl

theorem SameScan.targetOf (u : TowerIdx) (z : ZoneIdx) : t.targetOf u z = s.targetOf u z := targetOf_of_targets h.targets u z

theorem SameScan.eligible (u : TowerIdx) : t.eligible u = s.eligible u := by
  have waiting : t.waiting u = s.waiting u := by simp only [State.waiting, h.zone, h.targetOf]
  have phase : t.mayMove u = s.mayMove u := by simp only [State.mayMove, tower_congr h.jobs, h.phase]
  have effective : t.effective u = s.effective u := by rw [State.effective, State.effective, h.motion]
  have inFlight : t.motion.inFlight = s.motion.inFlight := by rw [h.motion]
  simp only [State.eligible, waiting, phase, effective, inFlight]

theorem SameScan.exhausted (exhausted : ScanExhausted s) : ScanExhausted t := by
  have cap : t.motion.cap = s.motion.cap := by rw [h.motion]
  have press : t.motion.pressInFlight = s.motion.pressInFlight := by rw [h.motion]
  unfold ScanExhausted
  rwa [cap, press, funext h.eligible]

theorem SameScan.startedOrSame {b : State} {u : TowerIdx} {z : ZoneIdx} (started : StartedOrSame b s u z) : StartedOrSame b t u z :=
  started.congr rfl rfl (h.zone u z)

theorem SameScan.handedOn {b : State} {u : TowerIdx} {z : ZoneIdx} {g : Target} (handed : HandedOn b s u z g) :
    HandedOn b t u z g := by
  obtain ⟨target, started, exhausted⟩ := handed
  exact ⟨(h.targetOf u z).trans target, h.startedOrSame started, fun other pending => h.exhausted (exhausted other pending)⟩

theorem SameScan.trans {r : State} (h' : SameScan t r) : SameScan s r where
  motion := by rw [h'.motion, h.motion]
  targets := h'.targets.trans h.targets
  jobs := h'.jobs.trans h.jobs
  phase := h'.phase.trans h.phase

end

theorem putPass_same (s : State) (u : TowerIdx) : s.putPass u (s.pass u) = s := by
  simp only [State.putPass, State.pass, put_look]
  rfl

theorem SameScan.of_putPass (u : TowerIdx) (p : TowerPass) (s : State) : SameScan s (s.putPass u p) := ⟨rfl, rfl, rfl, rfl⟩

/-! ### One Key Target written and handed on -/

/-- The notices after a hand-on depend on those before it, where they are the same. -/
theorem SameHandOn.notice_eq {s t s' t' : State} (h : SameHandOn s' t') (hs : Handing s s') (ht : Handing t t')
    (same : t.notice = s.notice) : t'.notice = s'.notice := by
  have records : t'.notice.records = s'.notice.records := table_ext fun k => by
    by_cases settled : k = 7
    · rw [settled, h.record]
    · rw [ht.records k settled, hs.records k settled, same]
  rw [ht.controls, hs.controls, same, records]

section
variable (s : State) (u : TowerIdx) (z : ZoneIdx) (g : Target)

theorem rewriteTarget_self_sameHandOn : SameHandOn (handTarget u z g.k s) (rewriteTarget u z g g.k s) :=
  rewriteTarget_sameHandOn u z g g.k ⟨rfl, rfl, rfl, rfl⟩

theorem rewriteTarget_notice : (rewriteTarget u z g g.k s).notice = (handTarget u z g.k s).notice :=
  (rewriteTarget_self_sameHandOn s u z g).notice_eq (handTarget_handing u z g.k s) (rewriteTarget_handing u z g g.k s) rfl

/-- A Key Target written and handed on, with the Dispatch Scan of a zone that becomes PENDING. -/
theorem rewriteTarget_handedOn : HandedOn s (scanIfPending s (rewriteTarget u z g g.k s)) u z g := by
  have scanned := scanIfPending_scanned s (rewriteTarget u z g g.k s)
  have written : (rewriteTarget u z g g.k s).targetOf u z = some g := by rw [rewriteTarget_targetOf, if_pos ⟨rfl, rfl⟩]
  refine ⟨(scanned.targetOf u z).trans written, (scanned.zones u z).congr rfl ?_ rfl,
    fun other pending => scanIfPending_exhausted pending other⟩
  rw [handTarget_targetOf, putTarget_targetOf, if_pos ⟨rfl, rfl⟩, written]

theorem rewriteTarget_others {v : TowerIdx} {x : ZoneIdx} (other : ¬ (u = v ∧ z = x)) :
    (scanIfPending s (rewriteTarget u z g g.k s)).targetOf v x = s.targetOf v x
      ∧ StartedOrSame s (scanIfPending s (rewriteTarget u z g g.k s)) v x := by
  have scanned := scanIfPending_scanned s (rewriteTarget u z g g.k s)
  have same := (rewriteTarget_locally u z g g.k).outside s v x other
  exact ⟨(scanned.targetOf v x).trans same.target, (scanned.zones v x).congr same.zone.symm same.target.symm rfl⟩

end

/-- A hand-on leaves the watches, or clears that of its tower. -/
theorem handTarget_watch (u : TowerIdx) (z : ZoneIdx) (k : Nat) (s : State) :
    (handTarget u z k s).motion.watch = s.motion.watch ∨ (handTarget u z k s).motion.watch = put s.motion.watch u false := by
  by_cases same : ((handTarget u z k s).zone u z).state = (s.zone u z).state
  · exact .inl (handTarget_kept_state same).1
  · obtain ⟨settled, kept⟩ := handTarget_settleTested same
    by_cases h : look s.motion.watch u = true ∧ ∀ x, ((handTarget u z k s).zone u x).state = .noTarget
        ∨ ((handTarget u z k s).zone u x).state = .atTarget ∨ ((handTarget u z k s).zone u x).state = .faulted
    · exact .inr (settled h).1
    · exact .inl (kept h).1

/-! ### The Hold Tower Set -/

theorem leaveHold_cycle (u : TowerIdx) (s : State) :
    (leaveHold u s).cycle = { s.cycle with hold := put s.cycle.hold u false } := by
  unfold leaveHold
  split
  · dsimp only
    split
    · rfl
    · rfl
  · next out =>
    rw [← Bool.eq_false_iff.2 out, put_look]

theorem leaveHold_records (u : TowerIdx) (s : State) (k : Fin 8) : look (leaveHold u s).notice.records k
    = if k = 1 ∧ look s.cycle.hold u = true ∧ ∀ v, v ≠ u → look s.cycle.hold v = false
      then some (mergeNotice (look s.notice.records 1) none .absent s.cycle.sheetCount) else look s.notice.records k := by
  have emptied : (s.setCycle { s.cycle with hold := put s.cycle.hold u false }).held = true
      ↔ ∃ v, v ≠ u ∧ look s.cycle.hold v = true := by
    rw [held_iff]
    refine exists_congr fun v => ?_
    rw [setCycle_cycle, look_put]
    by_cases here : u = v
    · simp [here]
    · simp [here, Ne.symm here]
  unfold leaveHold
  by_cases member : look s.cycle.hold u = true
  · rw [if_pos member]
    dsimp only
    by_cases others : ∃ v, v ≠ u ∧ look s.cycle.hold v = true
    · obtain ⟨v, other, held⟩ := others
      rw [if_pos (emptied.2 ⟨v, other, held⟩), if_neg fun all => by simp [all.2.2 v other] at held]
      rfl
    · have last : ∀ v, v ≠ u → look s.cycle.hold v = false := fun v other =>
        Bool.eq_false_iff.2 fun held => others ⟨v, other, held⟩
      rw [if_neg (mt emptied.1 others)]
      refine (raise_records ..).trans ?_
      by_cases here : k = 1
      · subst here
        exact (if_pos rfl).trans (if_pos ⟨rfl, member, last⟩).symm
      · exact (if_neg fun same => here same.symm).trans (if_neg fun all => here all.1).symm
  · rw [if_neg member, if_neg fun all => member all.2.1]

/-! ### The zone at the cursor -/

/-- A Zone Computation whose key curve yields a value writes E, B and K by it (R57 to R59). -/
theorem computeZone_of_value {s : State} {u : TowerIdx} {z : ZoneIdx} {e y : Nat}
    (coverage : effectiveCoverage (s.tower u).sideWeight ((s.tower u).coverage.getD []) z.val = e)
    (value : evaluateRef s.library .key (s.tower u).keyCurve e = some y) : computeZone u z s
      = (⟨e, baseOpening y (s.tower u).scale,
          keyTarget (baseOpening y (s.tower u).scale) (s.trimOf u z).trim ((s.tower u).offsetOf z) (s.tower u).keyMax⟩, s) := by
  simp only [computeZone, coverage, value, valueOrFree]

/-- The Zone Computation of the zone at the cursor, by the target it writes. -/
theorem zoneComputation_at {s : State} {u : TowerIdx} {z : ZoneIdx} {m : ZoneMap} {c : List Nat} {g : Target}
    (active : (s.pass u).state = .active) (cursor : (s.pass u).cursor = z.val) (map : (s.tower u).zoneMap = some m)
    (coverage : (s.tower u).coverage = some c) (length : c.length = m.zones) (inside : z.val < m.zones)
    (value : computeZone u z s = (g, s)) : zoneComputation u s
      = if m.zones ≤ z.val + 1
        then completePass u ((scanIfPending s (rewriteTarget u z g g.k s)).putPass u { s.pass u with cursor := z.val + 1 })
        else (scanIfPending s (rewriteTarget u z g g.k s)).putPass u { s.pass u with cursor := z.val + 1 } := by
  have can : s.canCompute u = true := by
    simp only [State.canCompute, active, map, coverage, length, cursor, inside, beq_self_eq_true, decide_true, Bool.and_self]
  have zone : zoneOf (s.pass u).cursor = some z := by
    rw [cursor]
    exact dif_pos z.isLt
  have scanned := scanIfPending_scanned s (rewriteTarget u z g g.k s)
  have handing := rewriteTarget_handing u z g g.k s
  have pass : (scanIfPending s (rewriteTarget u z g g.k s)).pass u = s.pass u :=
    congrArg (look · u) ((congrArg Engine.passes scanned.frame.engine).trans handing.passes)
  have at' : computeAt u z s = (scanIfPending s (rewriteTarget u z g g.k s)).putPass u { s.pass u with cursor := z.val + 1 } := by
    rw [computeAt_eq, computed, value]
    dsimp only
    rw [pass, cursor]
  have jobs : (computeAt u z s).jobs = s.jobs := by
    rw [at', putPass_jobs, scanned.frame.jobs, handing.frame.jobs]
  have own : (computeAt u z s).pass u = { s.pass u with cursor := z.val + 1 } := by
    rw [at', putPass_pass, if_pos rfl]
  have done : (computeAt u z s).passDone u = decide (m.zones ≤ z.val + 1) := by
    simp only [State.passDone, tower_congr jobs, map, own]
  unfold zoneComputation
  rw [if_pos can, zone]
  dsimp only
  rw [done, at']
  simp only [decide_eq_true_eq]

/-- What the zone at the cursor computed, written and handed on leaves, with the pass record as it is then written. -/
structure ZoneComputed (s t : State) (u : TowerIdx) (z : ZoneIdx) (g : Target) : Prop where
  handedOn : HandedOn s t u z g
  others : ∀ v x, (v, x) ≠ (u, z) → t.targetOf v x = s.targetOf v x ∧ StartedOrSame s t v x
  trims : ∀ v x, (t.trimOf v x).trim = (s.trimOf v x).trim ∧ (t.trimOf v x).lastAverage = (s.trimOf v x).lastAverage

theorem zoneComputed (s : State) (u : TowerIdx) (z : ZoneIdx) (g : Target) (p : TowerPass) :
    let t := (scanIfPending s (rewriteTarget u z g g.k s)).putPass u p
    OnlyChanges [.engine, .motion, .trim, .notice] s t ∧ ZoneComputed s t u z g
      ∧ (∀ v, t.pass v = if u = v then p else s.pass v)
      ∧ t.motion.watch = (handTarget u z g.k s).motion.watch ∧ t.notice = (handTarget u z g.k s).notice
      ∧ t.sweeps = s.sweeps := by
  intro t
  have scanned := scanIfPending_scanned s (rewriteTarget u z g g.k s)
  have handing := rewriteTarget_handing u z g g.k s
  have same := rewriteTarget_self_sameHandOn s u z g
  have motion : t.motion = (scanIfPending s (rewriteTarget u z g g.k s)).motion := putPass_motion ..
  have target (v x) : t.targetOf v x = (scanIfPending s (rewriteTarget u z g g.k s)).targetOf v x := putPass_targetOf ..
  refine ⟨?_, ⟨?_, fun v x other => ?_, fun v x => ?_⟩, fun v => ?_, ?_, ?_, ?_⟩
  · exact ((rewriteTarget_frame u z g g.k s).mono (by decide)).trans
      (((scanIfPending_frame _ _).mono (by decide)).trans ((putPass_frame _ _ _).mono (by decide)))
  · exact (SameScan.of_putPass u p _).handedOn (rewriteTarget_handedOn s u z g)
  · obtain ⟨kept, started⟩ := rewriteTarget_others s u z g (not_same_zone other)
    exact ⟨(target v x).trans kept, started.congr rfl rfl (zone_congr motion v x)⟩
  · have trims := scanned.trims v x
    rw [trimOf_congr handing.frame.trim] at trims
    rw [trimOf_congr (putPass_trim ..)]
    exact trims
  · rw [putPass_pass]
    split
    · rfl
    · exact congrArg (look · v) ((congrArg Engine.passes scanned.frame.engine).trans handing.passes)
  · rw [motion, scanned.watch, same.motion]
  · rw [putPass_notice, scanned.notice, rewriteTarget_notice]
  · rw [sweeps_congr (congrArg Motion.queue motion), scanned.sweeps, handing.sweeps]

/-! ### The completion of a pass -/

/-- The sweep that a completing pass computes: absent without a sweep curve, else what the curve makes of the pass mean (R61). -/
def SweepComputed (s : State) (u : TowerIdx) (mean : Nat) (sweep : Option Nat) : Prop :=
  ((s.tower u).sweepCurve = none ∧ sweep = none)
    ∨ ∃ sc v, (s.tower u).sweepCurve = some sc ∧ curveEvaluation s.library .sweep sc mean = some v ∧ v ≤ 1000 ∧ sweep = some v

section
variable {s : State} {u : TowerIdx} {mean : Nat} {sweep : Option Nat} (computed : SweepComputed s u mean sweep)
  (passMean : (s.pass u).mean = some mean)
include computed passMean

/-- The three ways in which the sweep of a completing pass is taken (R61): none or equal, and so not handed on, or handed on. -/
theorem completeSweep_cases : ((sweep = none ∨ sweep = (s.pass u).sweep)
      ∧ completeSweep u s = s.putPass u { s.pass u with sweep := sweep })
    ∨ ∃ v, sweep = some v ∧ sweep ≠ (s.pass u).sweep
      ∧ completeSweep u s = handSweep u v (s.putPass u { s.pass u with sweep := sweep }) := by
  unfold completeSweep
  obtain ⟨curve, rfl⟩ | ⟨sc, v, curve, value, bound, rfl⟩ := computed
  · rw [curve]
    exact .inl ⟨.inl rfl, rfl⟩
  · have evaluated : ((s.pass u).mean.bind fun m => curveEvaluation s.library .sweep sc m) = some v := by
      rw [passMean]
      exact value
    rw [curve]
    simp only [evaluated, valueOrFree, Nat.min_eq_right bound]
    by_cases same : (s.pass u).sweep = some v
    · refine .inl ⟨.inr same.symm, ?_⟩
      rw [if_pos same, ← same]
      exact (putPass_same s u).symm
    · exact .inr ⟨v, rfl, Ne.symm same, if_neg same⟩

theorem completeSweep_sameScan : SameScan s (completeSweep u s) := by
  obtain ⟨-, left⟩ | ⟨v, -, -, left⟩ := completeSweep_cases computed passMean
  · rw [left]
    exact .of_putPass u _ s
  · rw [left]
    have frame := handSweep_frame u v (s.putPass u { s.pass u with sweep := sweep })
    refine (SameScan.of_putPass u { s.pass u with sweep := sweep } s).trans
      ⟨?_, congrArg Engine.targets frame.engine, frame.jobs, congrArg Cycle.phase frame.cycle⟩
    rw [handSweep_motion]

theorem completeSweep_frame_of_value : OnlyChanges [.engine, .motion] s (completeSweep u s) := by
  obtain ⟨-, left⟩ | ⟨v, -, -, left⟩ := completeSweep_cases computed passMean
  · rw [left]
    exact (putPass_frame _ _ _).mono (by decide)
  · rw [left]
    exact ((putPass_frame _ _ _).mono (by decide)).trans ((handSweep_frame _ _ _).mono (by decide))

theorem completeSweep_watch : (completeSweep u s).motion.watch = s.motion.watch := by
  obtain ⟨-, left⟩ | ⟨v, -, -, left⟩ := completeSweep_cases computed passMean
  · rw [left]
    rfl
  · rw [left, handSweep_motion]
    rfl

theorem completeSweep_pass (v : TowerIdx) : (completeSweep u s).pass v
    = if u = v then { s.pass u with sweep := sweep } else s.pass v := by
  obtain ⟨-, left⟩ | ⟨n, -, -, left⟩ := completeSweep_cases computed passMean
  · rw [left, putPass_pass]
  · rw [left]
    exact (congrArg (fun e : Engine => look e.passes v) (handSweep_frame _ _ _).engine).trans (putPass_pass ..)

theorem completeSweep_sweepsOf : ((sweep = none ∨ sweep = (s.pass u).sweep) → (completeSweep u s).sweepsOf u = s.sweepsOf u)
    ∧ ∀ v, sweep = some v → sweep ≠ (s.pass u).sweep → (completeSweep u s).sweepsOf u
      = if s.sweepsOf u = [] then [.sweep u v] else (s.sweepsOf u).map fun _ => .sweep u v := by
  obtain ⟨still, left⟩ | ⟨v, present, changed, left⟩ := completeSweep_cases computed passMean
  · rw [left]
    refine ⟨fun _ => rfl, fun v present changed => ?_⟩
    obtain absent | same := still
    · rw [absent] at present
      cases present
    · exact absurd same changed
  · rw [left]
    refine ⟨fun still => ?_, fun v' present' _ => ?_⟩
    · obtain absent | same := still
      · rw [absent] at present
        cases present
      · exact absurd same changed
    · obtain rfl := Option.some.inj (present.symm.trans present')
      rw [handSweep_sweepsOf, if_pos rfl]
      rfl

end

theorem setWatch_sameScan (u : TowerIdx) (s : State) : SameScan s (setWatch u s) := by
  have frame := setWatch_frame u s
  refine ⟨?_, congrArg Engine.targets frame.engine, frame.jobs, congrArg Cycle.phase frame.cycle⟩
  rw [setWatch, settleTest_motion]
  rfl

theorem setWatch_queue (u : TowerIdx) (s : State) : (setWatch u s).motion.queue = s.motion.queue := by
  rw [setWatch, settleTest_motion]
  rfl

theorem setWatch_records (u : TowerIdx) (s : State) {k : Fin 8} (other : k ≠ 7) :
    look (setWatch u s).notice.records k = look s.notice.records k := settleTest_records u _ other

theorem leaveHold_sameScan (u : TowerIdx) (s : State) : SameScan s (leaveHold u s) := by
  have frame := leaveHold_frame u s
  refine ⟨by rw [frame.motion], congrArg Engine.targets frame.engine, frame.jobs, ?_⟩
  rw [leaveHold_cycle]

theorem rerunOrEnd_eq (u : TowerIdx) (s : State) : rerunOrEnd u s = s.putPass u
    (if (s.pass u).rerun && look s.running.ready u
      then { s.pass u with state := .active, cursor := 0, rerun := false, mean := (s.tower u).mean? }
      else { s.pass u with state := .none, rerun := false }) := by
  unfold rerunOrEnd beginPass
  split
  · rfl
  · rfl

/-- What the completion of a pass that computed a sweep leaves (R61, R62). -/
structure PassCompleted (s t : State) (u : TowerIdx) (sweep : Option Nat) : Prop where
  frame : OnlyChanges [.engine, .motion, .cycle, .notice] s t
  scan : SameScan s t
  pass : ∀ v, t.pass v = if u = v
    then (if (s.pass u).rerun && look s.running.ready u
      then { s.pass u with state := .active, cursor := 0, rerun := false, mean := (s.tower u).mean?, sweep := sweep }
      else { s.pass u with state := .none, rerun := false, sweep := sweep })
    else s.pass v
  still : (sweep = none ∨ sweep = (s.pass u).sweep) → t.sweepsOf u = s.sweepsOf u
  handed : ∀ v, sweep = some v → sweep ≠ (s.pass u).sweep → t.sweepsOf u
    = if s.sweepsOf u = [] then [.sweep u v] else (s.sweepsOf u).map fun _ => .sweep u v
  settled : SettleTested (s.setMotion { s.motion with watch := put s.motion.watch u true }) t u
  cycle : t.cycle = { s.cycle with hold := put s.cycle.hold u false }
  records : ∀ k, k ≠ 7 → look t.notice.records k
    = if k = 1 ∧ look s.cycle.hold u = true ∧ ∀ v, v ≠ u → look s.cycle.hold v = false
      then some (mergeNotice (look s.notice.records 1) none .absent s.cycle.sheetCount) else look s.notice.records k

theorem completePass_completed {s : State} {u : TowerIdx} {mean : Nat} {sweep : Option Nat}
    (computed : SweepComputed s u mean sweep) (passMean : (s.pass u).mean = some mean) :
    PassCompleted s (completePass u s) u sweep := by
  have swept := completeSweep_frame_of_value computed passMean
  have watched := setWatch_frame u (completeSweep u s)
  have left := leaveHold_frame u (setWatch u (completeSweep u s))
  have before : SameScan s (setWatch u (completeSweep u s)) :=
    (completeSweep_sameScan computed passMean).trans (setWatch_sameScan u _)
  have frame : OnlyChanges [.engine, .motion, .cycle, .notice] s (leaveHold u (setWatch u (completeSweep u s))) :=
    (swept.mono (by decide)).trans ((watched.mono (by decide)).trans (left.mono (by decide)))
  have scan : SameScan s (leaveHold u (setWatch u (completeSweep u s))) := before.trans (leaveHold_sameScan u _)
  have pass (v) : (leaveHold u (setWatch u (completeSweep u s))).pass v
      = if u = v then { s.pass u with sweep := sweep } else s.pass v :=
    (congrArg (fun e : Engine => look e.passes v) (left.engine.trans watched.engine)).trans
      (completeSweep_pass computed passMean v)
  have queue : (leaveHold u (setWatch u (completeSweep u s))).motion.queue = (completeSweep u s).motion.queue := by
    rw [left.motion, setWatch_queue]
  have sweeps := completeSweep_sweepsOf computed passMean
  have cycle : (setWatch u (completeSweep u s)).cycle = s.cycle := watched.cycle.trans swept.cycle
  unfold completePass
  rw [rerunOrEnd_eq]
  refine ⟨frame.trans ((putPass_frame _ _ _).mono (by decide)), scan.trans (.of_putPass u _ _), fun v => ?_, fun still => ?_,
    fun v present changed => ?_, ?_, ?_, fun k other => ?_⟩
  · rw [putPass_pass, pass u, if_pos rfl, running_congr scan.jobs, tower_congr scan.jobs, pass v]
    split
    · rfl
    · rfl
  · exact (congrArg (List.filter (DriveEntry.isSweepOf u)) queue).trans (sweeps.1 still)
  · exact (congrArg (List.filter (DriveEntry.isSweepOf u)) queue).trans (sweeps.2 v present changed)
  · have tested := settleTest_settleTested u ((completeSweep u s).setMotion { (completeSweep u s).motion with
      watch := put (completeSweep u s).motion.watch u true })
    refine SettleTested.congr (t := setWatch u (completeSweep u s)) tested ?_ ?_ ?_ (fun z => ?_) ?_ ?_
    · change put s.motion.watch u true = put (completeSweep u s).motion.watch u true
      rw [completeSweep_watch computed passMean]
    · change look s.notice.records 7 = look (completeSweep u s).notice.records 7
      rw [swept.notice]
    · change s.cycle.sheetCount = (completeSweep u s).cycle.sheetCount
      rw [swept.cycle]
    · rw [zone_congr ((putPass_motion ..).trans left.motion)]
    · rw [putPass_motion, left.motion]
    · rw [putPass_notice, leaveHold_records, if_neg (by simp)]
  · rw [putPass_cycle, leaveHold_cycle, cycle]
  · rw [putPass_notice, leaveHold_records, cycle, setWatch_records u _ other, swept.notice]
    by_cases empties : k = 1
    · subst empties
      rw [setWatch_records u _ (by decide), swept.notice]
    · rw [if_neg fun all => empties all.1, if_neg fun all => empties all.1]

end Sys2Proof.Machine
end

section
/-! PROOF. Zone Computations (R56 to R62). -/

set_option Elab.async false

namespace Sys2Proof.Machine

/-- Settles O35: the target written is that of the stage arithmetic, and it is handed on with its scan. -/
theorem zoneComputationWritesTheZone : Obligations.ZoneComputationWritesTheZone := by
  unfold Obligations.ZoneComputationWritesTheZone
  intro s u z m c key y r own left sum e b k active cursor ahead map coverage length curve value
  have coverageAt : effectiveCoverage (s.tower u).sideWeight ((s.tower u).coverage.getD []) z.val = e := by
    rw [show (s.tower u).coverage = some c from coverage]
    simp only [effectiveCoverage, Option.getD_some, length, if_pos ahead]
    rfl
  have written := computeZone_of_value (s := s) (u := u) (z := z) (e := e) (y := y) coverageAt
    (by rw [show (s.tower u).keyCurve = some key from curve]; exact value)
  have left := zoneComputation_at active cursor map coverage length (Nat.lt_of_succ_lt ahead) written
  rw [if_neg (by omega)] at left
  change _ = (scanIfPending s (rewriteTarget u z ⟨e, b, k⟩ k s)).putPass u { s.pass u with cursor := z.val + 1 } at left
  obtain ⟨frame, ⟨handedOn, others, trims⟩, passes, watch, notice, -⟩ :=
    zoneComputed s u z ⟨e, b, k⟩ { s.pass u with cursor := z.val + 1 }
  exact ⟨_, congrArg Host.Outcome.next left, frame, handedOn, others, (passes u).trans (if_pos rfl),
    fun v other => (passes v).trans (if_neg other.symm), trims, watch, notice⟩

/-- Settles O36: the last zone is computed as any other, and the completion of the pass follows on the state it leaves. -/
theorem lastZoneCompletesThePass : Obligations.LastZoneCompletesThePass := by
  unfold Obligations.LastZoneCompletesThePass
  intro s u z m c key y mean sweep r p own left sum b k ended sweeps active cursor last passMean map coverage length curve value
    sweepIs
  let g : Target := ⟨(2 * sum + 256) / 512, b, k⟩
  have coverageAt : effectiveCoverage (s.tower u).sideWeight ((s.tower u).coverage.getD []) z.val = (2 * sum + 256) / 512 := by
    rw [show (s.tower u).coverage = some c from coverage]
    simp only [effectiveCoverage, Option.getD_some, length, if_neg (show ¬ z.val + 1 < m.zones by omega)]
    rfl
  have written : computeZone u z s = (g, s) := computeZone_of_value (y := y) coverageAt
    (by rw [show (s.tower u).keyCurve = some key from curve]; exact value)
  have next := zoneComputation_at active cursor map coverage length (by omega) written
  rw [if_pos (by omega)] at next
  obtain ⟨frame, ⟨handedOn, others, trims⟩, passes, watch, notice, queued⟩ :=
    zoneComputed s u z g { s.pass u with cursor := z.val + 1 }
  generalize (scanIfPending s (rewriteTarget u z g g.k s)).putPass u { s.pass u with cursor := z.val + 1 } = w at *
  have pass : w.pass u = { s.pass u with cursor := z.val + 1 } := (passes u).trans (if_pos rfl)
  have computed : SweepComputed w u mean sweep := by
    unfold SweepComputed
    rwa [tower_congr frame.jobs, frame.library]
  have done := completePass_completed computed (by rw [pass]; exact passMean)
  have sameSweep : (w.pass u).sweep = p.sweep := by rw [pass]
  have rerun : (w.pass u).rerun = p.rerun := by rw [pass]
  have handing := handTarget_handing u z g.k s
  have was : sweeps w = sweeps s := sweepsOf_congr queued u
  have mean' : (w.tower u).mean? = some ((2 * c.sum + m.zones) / (2 * m.zones)) := by
    rw [tower_congr frame.jobs, TowerSettings.mean?, show (s.tower u).coverage = some c from coverage,
      show (s.tower u).zoneMap = some m from map]
    rfl
  have ready : look w.running.ready u = look s.running.ready u := by rw [running_congr frame.jobs]
  refine ⟨_, congrArg Host.Outcome.next next, (frame.mono (by decide)).trans (done.frame.mono (by decide)), done.scan.handedOn handedOn,
    fun v x other => ?_, fun v x => ?_, fun again => ?_, fun ends => ?_, fun v other => ?_, fun still => ?_,
    fun v present changed empty => ?_, fun v present changed waiting => ?_, ?_, fun i one seven => ?_, ?_,
    fun member alone => ?_, fun stays => ?_⟩
  · obtain ⟨kept, started⟩ := others v x other
    exact ⟨(done.scan.targetOf v x).trans kept, done.scan.startedOrSame started⟩
  · rw [trimOf_congr done.frame.trim]
    exact trims v x
  · rw [done.pass, if_pos rfl, rerun, ready, again.1, again.2, Bool.and_true, if_pos rfl, mean']
  · have ends : (p.rerun && look s.running.ready u) = false := Bool.and_eq_false_iff.2 ends
    rw [done.pass, if_pos rfl, rerun, ready, ends, if_neg (by decide), pass, last]
  · rw [done.pass, if_neg other.symm, passes, if_neg other.symm]
  · exact (done.still (by rwa [sameSweep])).trans was
  · refine (done.handed v present (by rwa [sameSweep])).trans (if_pos (was.trans empty))
  · refine (done.handed v present (by rwa [sameSweep])).trans ((if_neg ?_).trans ?_)
    · exact fun empty => waiting (was.symm.trans empty)
    · exact congrArg (List.map fun _ => DriveEntry.sweep u v) was
  · refine done.settled.congr ?_ ?_ ?_ (fun x => rfl) rfl rfl
    · change put s.motion.watch u true = put w.motion.watch u true
      obtain same | cleared := handTarget_watch u z g.k s
      · rw [watch, same]
      · rw [watch, cleared, put_put]
    · change look (handTarget u z k s).notice.records 7 = look w.notice.records 7
      rw [notice]
    · change (handTarget u z k s).cycle.sheetCount = w.cycle.sheetCount
      rw [frame.cycle, (handTarget_frame u z k s).cycle]
  · rw [done.records i seven, if_neg fun all => one all.1, notice, handing.records i seven]
  · rw [done.cycle, frame.cycle]
  · rw [done.records 1 (by decide), frame.cycle, if_pos ⟨rfl, member, alone⟩, notice, handing.records 1 (by decide)]
  · rw [done.records 1 (by decide), frame.cycle, if_neg ?_, notice, handing.records 1 (by decide)]
    rintro ⟨-, member, alone⟩
    obtain out | ⟨v, other, held⟩ := stays
    · exact absurd (out.symm.trans member) (by decide)
    · exact absurd ((alone v other).symm.trans held) (by decide)

end Sys2Proof.Machine
end

section
/-! SUPPORT. Press Phase case by case (R123). -/

set_option Elab.async false

namespace Sys2Proof.Machine

theorem dispatchScan_of_exhausted {s : State} (exhausted : ScanExhausted s) : dispatchScan s = s :=
  dispatchScan_done (exhausted.imp id scanStep_eq_none_iff.2)

/-- A changeover ends with a Dispatch Scan, and so a further one starts nothing. -/
theorem dispatchScan_takeChangeover (a : ArmedChangeover) (s : State) :
    dispatchScan (takeChangeover a s) = takeChangeover a s :=
  dispatchScan_of_exhausted (dispatchScan_exhausted _)

theorem phaseOf_num (ph : Phase) : Phase.ofNum? ph.num = some ph := by
  cases ph with
  | idle => rfl
  | makeready => rfl
  | print => rfl
  | wash => rfl

theorem phaseOf_beyond {n : Nat} (beyond : 4 ≤ n) : Phase.ofNum? n = none := by
  obtain ⟨m, rfl⟩ := Nat.exists_eq_add_of_le' beyond
  rfl

/-- The state with the press in a phase. -/
def State.phased (s : State) (ph : Phase) : State := s.setCycle { s.cycle with phase := ph }

theorem phased_frame (s : State) (ph : Phase) : OnlyChanges [.cycle] s (s.phased ph) := setCycle_frame s _

/-- A request whose handler accepts it and answers with both slot states, as they are after it, between other fields. -/
theorem takeRequest_statesBetween {s t : State} {k : RequestKind} {f : Frame} {rest : List Frame} (h : Waits s k f rest)
    {g : List Byte → State → Reply} {bs : List Block} {front back : List Byte}
    (hg : g f.payload (s.taken rest) = ⟨t, .ok, front ++ t.slotStates ++ back⟩) (frame : OnlyChanges bs (s.taken rest) t)
    (hl : Block.link ∉ bs := by decide) :
    Answered s f rest 0 (front ++ (takeRequest k g s).slotStates ++ back) (takeRequest k g s)
      ∧ OnlyChanges (.link :: bs) s (takeRequest k g s) ∧ OnlyChanges [.link] t (takeRequest k g s) := by
  obtain ⟨answered, changed, after⟩ := takeRequest_answered h g (by rw [hg]; exact frame) hl
  rw [hg] at answered after
  exact ⟨slotStates_congr after.jobs ▸ answered, changed, after⟩

section
variable {p : List Byte} {n : Byte} {s : State} {ph : Phase} (hp : p = [n])
include hp

theorem pressPhase_beyond (beyond : 4 ≤ n.toNat) : pressPhase p s = ⟨s, .range, []⟩ := by
  subst hp
  have none : Phase.ofNum? (u8 [n] 0) = none := phaseOf_beyond beyond
  simp [pressPhase, none, Reply.bare]

variable (code : n.toNat = ph.num)
include code

theorem pressPhase_in_range : pressPhase p s =
    let taken := ph = .idle ∧ s.cycle.phase ≠ .idle ∧ s.cycle.armed.isSome
    let s2 := if taken then takeArmed (s.phased ph) else s.phased ph
    let s3 := if ph = s.cycle.phase then s2 else dispatchScan s2
    ⟨s3, .ok, byte1 ph.num ++ s3.slotStates ++ byte1 (flagNum (decide taken))⟩ := by
  subst hp
  have some : Phase.ofNum? (u8 [n] 0) = some ph := by
    rw [show u8 [n] 0 = n.toNat from rfl, code, phaseOf_num]
  simp only [pressPhase, List.length_singleton, ne_eq, not_true_eq_false, if_false, some, State.phased]

theorem pressPhase_same (same : ph = s.cycle.phase) : pressPhase p s = ⟨s, .ok, [n] ++ s.slotStates ++ [0]⟩ := by
  have entered : ¬ (ph = .idle ∧ s.cycle.phase ≠ .idle ∧ s.cycle.armed.isSome = true) := fun ⟨idle, other, _⟩ =>
    other (same.symm.trans idle)
  have kept : s.phased ph = s := by
    subst same
    rfl
  rw [pressPhase_in_range hp code]
  simp only [if_neg entered, if_pos same, kept, decide_eq_false entered, ← code, byte1_toNat]
  rfl

theorem pressPhase_changed (changed : ph ≠ s.cycle.phase) (free : ph ≠ .idle ∨ s.cycle.armed = none) : pressPhase p s
    = ⟨dispatchScan (s.phased ph), .ok, [n] ++ (dispatchScan (s.phased ph)).slotStates ++ [0]⟩ := by
  have entered : ¬ (ph = .idle ∧ s.cycle.phase ≠ .idle ∧ s.cycle.armed.isSome = true) := by
    rintro ⟨idle, -, armed⟩
    rw [free.resolve_left (not_not.2 idle)] at armed
    simp at armed
  rw [pressPhase_in_range hp code]
  simp only [if_neg entered, if_neg changed, decide_eq_false entered, ← code, byte1_toNat]
  rfl

theorem pressPhase_taken {a : ArmedChangeover} (idle : ph = .idle) (changed : s.cycle.phase ≠ .idle)
    (armed : s.cycle.armed = some a) : pressPhase p s = ⟨takeChangeover a (s.phased ph), .ok,
      [n] ++ (takeChangeover a (s.phased ph)).slotStates ++ [1]⟩ := by
  have entered : ph = .idle ∧ s.cycle.phase ≠ .idle ∧ s.cycle.armed.isSome = true :=
    ⟨idle, changed, by rw [armed]; rfl⟩
  have other : ph ≠ s.cycle.phase := fun same => changed (same.symm.trans idle)
  have taken : takeArmed (s.phased ph) = takeChangeover a (s.phased ph) := takeArmed_of_armed armed
  rw [pressPhase_in_range hp code]
  simp only [if_pos entered, if_neg other, decide_eq_true entered, taken, dispatchScan_takeChangeover, ← code, byte1_toNat]
  rfl

end

end Sys2Proof.Machine
end

section
/-! PROOF. Sheet Marks and Press Phase (R121, R123). -/

set_option Elab.async false

namespace Sys2Proof.Machine

theorem sheetMark_counted {s : State} (released : s.link.resetHeld = false) : sheetMark s
    = takeArmed (s.setCycle { s.cycle with sheetCount := min 4294967295 (s.cycle.sheetCount + 1) }) := by
  unfold sheetMark
  rw [released, if_neg (by decide)]
  rfl

/-- Settles O49: by the cases of the phase and of the armed changeover. -/
theorem sheetMarksAndPhasesTakeArmedChangeovers : Obligations.SheetMarksAndPhasesTakeArmedChangeovers := by
  unfold Obligations.SheetMarksAndPhasesTakeArmedChangeovers
  refine ⟨fun s released => ⟨fun free => ?_, fun a armed => ?_⟩, fun s f rest n waits payload => ?_⟩
  · refine congrArg Host.Outcome.next ((sheetMark_counted released).trans ?_)
    simp [takeArmed, free]
  · exact congrArg Host.Outcome.next ((sheetMark_counted released).trans (takeArmed_of_armed armed))
  refine ⟨takeRequest .pressPhase pressPhase s, rfl, fun beyond => ?_, fun ph code =>
    ⟨fun same => ?_, fun changed free => ?_, fun a idle changed armed => ?_⟩⟩
  · exact takeRequest_refused waits (pressPhase_beyond (s := s.taken rest) payload beyond)
  · exact takeRequest_refused waits (pressPhase_same (s := s.taken rest) payload code same)
  · have reply := pressPhase_changed (s := s.taken rest) payload code changed free
    have scanned := dispatchScan_scanned ((s.taken rest).phased ph)
    have frame : OnlyChanges [.motion, .trim, .cycle] (s.taken rest) (dispatchScan ((s.taken rest).phased ph)) :=
      ((phased_frame _ ph).mono (by decide)).trans (scanned.frame.mono (by decide))
    obtain ⟨answered, changes, after⟩ := takeRequest_statesBetween waits reply frame
    rw [slotStates_congr (changes.jobs)] at answered
    refine ⟨answered, changes.mono (by decide), after.cycle.trans scanned.frame.cycle, fun u z => ?_, ?_⟩
    · exact (scanned.zones u z).congr rfl rfl (zone_congr after.motion u z)
    · exact (dispatchScan_exhausted _).congr after.motion after.engine after.jobs after.cycle
  · have reply := pressPhase_taken (s := s.taken rest) payload code idle changed armed
    have frame : OnlyChanges [.jobs, .buffers, .engine, .motion, .trim, .cycle, .notice] (s.taken rest)
        (takeChangeover a ((s.taken rest).phased ph)) :=
      ((phased_frame _ ph).mono (by decide)).trans (takeChangeover_frame a _)
    obtain ⟨answered, -, after⟩ := takeRequest_statesBetween waits reply frame
    rw [idle] at after
    exact ⟨answered, after⟩

end Sys2Proof.Machine
end

section
/-! SUPPORT. What a Configure Tower of the RUNNING slot hands on, step by step (R23, R64, R82). -/

set_option Elab.async false

namespace Sys2Proof.Machine

/-! ### Restricted Motion (R82) -/

/-- MOTION_RESTRICTED is the one notice that a re-evaluation of Restricted Motion can raise. -/
theorem evalRestricted_records (s : State) {k : Fin 8} (other : k ≠ 2) :
    look (evalRestricted s).notice.records k = look s.notice.records k := by
  by_cases enters : s.motion.cap < s.enabledConcurrency ∧ s.motion.restricted = false
  · rw [evalRestricted_notice_entered enters.1 enters.2, raise_records]
    exact if_neg fun same => other same.symm
  · rw [evalRestricted_notice_kept enters]

/-- Restricted Motion is re-evaluated in a state with the limits of before, over the towers enabled there. -/
theorem evalRestricted_reevaluated {s c t : State} {enabled : TowerIdx → Bool} (cap : c.motion.cap = s.motion.cap)
    (concurrency : c.motion.concurrency = s.motion.concurrency) (before : c.motion.restricted = s.motion.restricted)
    (record : look c.notice.records 2 = look s.notice.records 2) (sheet : c.cycle.sheetCount = s.cycle.sheetCount)
    (inForce : ∀ v, (c.tower v).enabled = enabled v)
    (after : t.motion.restricted = (evalRestricted c).motion.restricted)
    (raised : look t.notice.records 2 = look (evalRestricted c).notice.records 2) : Reevaluated s t enabled := by
  have sum : c.enabledConcurrency = (allTowers.map fun u => if enabled u then look s.motion.concurrency u else 0).sum := by
    simp only [State.enabledConcurrency, inForce, concurrency]
  unfold Reevaluated
  rw [after, raised, evalRestricted_motion, ← sum, ← cap, ← before, ← record, ← sheet]
  dsimp only
  refine ⟨decide_eq_true_iff, fun ⟨exceeds, free⟩ => ?_, fun kept => ?_⟩
  · rw [evalRestricted_notice_entered exceeds free, raise_records]
    exact if_pos rfl
  · rw [evalRestricted_notice_kept kept]

/-! ### Key Targets clamped to a lowered key maximum (R23) -/

theorem afterClamp_eq (s : State) (u : TowerIdx) (z : ZoneIdx) (old new : Nat) :
    s.afterClamp u z old new = if new < old then clampTarget u new z s else s := by
  unfold State.afterClamp clampTarget
  cases s.targetOf u z with
  | none => exact (ite_self s).symm
  | some g =>
    by_cases lowered : new < old
    · simp only [lowered, true_and, if_true]
      rfl
    · simp only [lowered, false_and, if_false]

theorem afterClamp_frame (s : State) (u : TowerIdx) (z : ZoneIdx) (old new : Nat) :
    OnlyChanges [.engine, .motion, .notice] s (s.afterClamp u z old new) := by
  rw [afterClamp_eq]
  exact .ite (clampTarget_handing u new z s).frame (.refl _ s)

/-- Step 1 of R23: the Key Targets of the tower clamped where its key maximum is lowered. -/
def State.lowered (s : State) (u : TowerIdx) (old new : TowerSettings) : State :=
  if new.keyMax < old.keyMax then clampTargets u new.keyMax s else s

section
variable (s : State) (u : TowerIdx) (old new : TowerSettings)

theorem lowered_handing : Handing s (s.lowered u old new) := by
  unfold State.lowered
  split
  · exact clampTargets_handing u _ s
  · exact .refl s

theorem lowered_limits : (s.lowered u old new).motion.cap = s.motion.cap
    ∧ (s.lowered u old new).motion.concurrency = s.motion.concurrency
    ∧ (s.lowered u old new).motion.restricted = s.motion.restricted := by
  rw [(lowered_handing s u old new).motion]
  exact ⟨rfl, rfl, rfl⟩

theorem lowered_kept (raised : old.keyMax ≤ new.keyMax) : s.lowered u old new = s := if_neg (by omega)

theorem lowered_own (z : ZoneIdx) : SameAt (s.afterClamp u z old.keyMax new.keyMax) (s.lowered u old new) u z := by
  rw [afterClamp_eq]
  unfold State.lowered
  split
  · exact (Locally.foldl_zones (clampTarget_locally u new.keyMax) allZones_nodup s).2 z (mem_allZones z)
  · exact .refl ..

theorem lowered_other {v : TowerIdx} (other : v ≠ u) (z : ZoneIdx) : SameAt s (s.lowered u old new) v z := by
  unfold State.lowered
  split
  · exact (Locally.foldl_zones (clampTarget_locally u new.keyMax) allZones_nodup s).1 v z (.inl other)
  · exact .refl ..

theorem lowered_le (within : ∀ z g, s.targetOf u z = some g → g.k ≤ old.keyMax) {z : ZoneIdx} {g : Target}
    (target : (s.lowered u old new).targetOf u z = some g) : g.k ≤ new.keyMax := by
  unfold State.lowered at target
  split at target
  · exact clampTargets_le target
  · next raised => exact (within z g target).trans (Nat.le_of_not_lt raised)

end

/-- The clamp of one zone is the same in two states that agree at it. -/
theorem afterClamp_sameAt {s t : State} {u : TowerIdx} {z : ZoneIdx} (context : SameContext s t) (same : SameAt s t u z)
    (old new : Nat) : SameAt (s.afterClamp u z old new) (t.afterClamp u z old new) u z := by
  rw [afterClamp_eq, afterClamp_eq]
  split
  · exact (clampTarget_locally u new z).inside s t context (fun v x here => here.1 ▸ here.2 ▸ same) u z ⟨rfl, rfl⟩
  · exact same

/-! ### The Pass Cause of a Configure Tower (R54, R64) -/

theorem passCause_eq (u : TowerIdx) (s : State) : passCause u s
    = s.putPass u ((s.pass u).caused (look s.running.ready u) (s.tower u).mean?) := by
  unfold passCause TowerPass.caused
  cases state : (s.pass u).state with
  | active =>
    simp only [if_true, state]
  | none =>
    simp only [reduceCtorEq, if_false]
    split
    · rfl
    · exact (putPass_same s u).symm

theorem putPass_putPass (s : State) (u : TowerIdx) (p q : TowerPass) : (s.putPass u p).putPass u q = s.putPass u q := by
  unfold State.putPass
  rw [setEngine_engine, put_put]
  rfl

/-- The pass record that a Configure Tower leaves of an enabled tower of the running job. -/
def State.passConfigured (s : State) (u : TowerIdx) (old new : TowerSettings) : TowerPass :=
  (if (s.pass u).state = .active ∧ curvesChanged old new = true then (s.pass u).abandon else s.pass u).caused
    (look s.running.ready u) (s.tower u).mean?

/-- The zones at or above an abandoned cursor, where no new pass begins (R64). -/
def State.released (s : State) (u : TowerIdx) (old new : TowerSettings) (z : ZoneIdx) : Bool :=
  (s.pass u).state == .active && curvesChanged old new && !look s.running.ready u && decide ((s.pass u).cursor ≤ z.val)

theorem released_iff {s : State} {u : TowerIdx} {old new : TowerSettings} {z : ZoneIdx} : s.released u old new z = true
    ↔ (s.pass u).state = .active ∧ curvesChanged old new = true ∧ look s.running.ready u = false
      ∧ (s.pass u).cursor ≤ z.val := by
  simp [State.released, and_assoc]

/-- Zone Updates of zones at or above an abandoned cursor act where no new pass begins. -/
theorem zoneUpdates_inert {u : TowerIdx} {zs : List ZoneIdx} {s : State} (inert : ∀ z, (s.pass u).hasPassed z = false) :
    zoneUpdates u zs s = s := by
  induction zs with
  | nil => rfl
  | cons z zs ih =>
    change zoneUpdates u zs (zoneUpdate u z s) = s
    rw [zoneUpdate_left (inert z), ih]

theorem abandon_caused (p : TowerPass) (ready : Bool) (mean : Option Nat) : p.abandon.caused ready mean
    = if ready then { p with state := .active, cursor := 0, rerun := false, mean := mean } else p.abandon := by
  unfold TowerPass.caused TowerPass.abandon
  simp only [reduceCtorEq, if_false]

/-- A Configure Tower of an enabled tower writes the pass record and hands on the zones it releases. -/
theorem configurePass_eq (u : TowerIdx) (old new : TowerSettings) (s : State) : configurePass u old new s
    = zoneUpdates u (allZones.filter (s.released u old new)) (s.putPass u (s.passConfigured u old new)) := by
  by_cases abandons : (s.pass u).state = .active ∧ curvesChanged old new = true
  · have after : passCause u (s.putPass u (s.pass u).abandon) = s.putPass u (s.passConfigured u old new) := by
      rw [passCause_eq, putPass_pass, if_pos rfl, State.passConfigured, if_pos abandons]
      exact putPass_putPass s u _ _
    have left : configurePass u old new s
        = zoneUpdates u (allZones.filter fun z => (s.pass u).cursor ≤ z.val) (s.putPass u (s.passConfigured u old new)) := by
      unfold configurePass
      rw [abandons.1, ← after]
      exact if_pos abandons.2
    rw [left]
    cases ready : look s.running.ready u with
    | true =>
      have ahead : ∀ z, ((s.putPass u (s.passConfigured u old new)).pass u).hasPassed z = false := fun z => by
        rw [putPass_pass, if_pos rfl, State.passConfigured, if_pos abandons, abandon_caused, if_pos ready]
        rfl
      rw [zoneUpdates_inert ahead, zoneUpdates_inert ahead]
    | false =>
      have zones : (fun z : ZoneIdx => decide ((s.pass u).cursor ≤ z.val)) = s.released u old new := funext fun z => by
        rw [State.released, abandons.1, abandons.2, ready]
        rfl
      rw [zones]
  · have none : allZones.filter (s.released u old new) = [] :=
      List.filter_eq_nil_iff.2 fun z _ released => abandons ⟨(released_iff.1 released).1, (released_iff.1 released).2.1⟩
    have cause : configurePass u old new s = passCause u s := by
      unfold configurePass
      split
      · rfl
      · next active => exact if_neg fun changed => abandons ⟨active, changed⟩
    rw [cause, none, passCause_eq, State.passConfigured, if_neg abandons]
    rfl

/-! ### A Configure Tower that disables no enabled tower of the running job -/

theorem evalRestricted_sameAt (s : State) (u : TowerIdx) (z : ZoneIdx) : SameAt s (evalRestricted s) u z where
  zone := by rw [State.zone, evalRestricted_motion]; rfl
  target := targetOf_congr (evalRestricted_frame s).engine u z
  moves := moves_congr (by rw [evalRestricted_motion]) u z

/-- The clamp of step 1 of R23 and the re-evaluation of Restricted Motion of a changed enabled field. -/
def State.reconfigured (s : State) (u : TowerIdx) (old new : TowerSettings) : State :=
  if old.enabled != new.enabled then evalRestricted (s.lowered u old new) else s.lowered u old new

/-- The zones that a Configure Tower has updated beside the clamp (R64). -/
def State.updatedZones (s : State) (u : TowerIdx) (old new : TowerSettings) : List ZoneIdx :=
  if new.enabled then allZones.filter (s.released u old new) else []

/-- The hand-ons of a Configure Tower that disables no enabled tower, before the Dispatch Scan. -/
def State.handedOver (s : State) (u : TowerIdx) (old new : TowerSettings) : State :=
  zoneUpdates u (s.updatedZones u old new) ((s.reconfigured u old new).putPass u
    (if new.enabled then s.passConfigured u old new else s.pass u))

section
variable (s : State) (u : TowerIdx) (old new : TowerSettings)

theorem reconfigured_frame : OnlyChanges [.engine, .motion, .notice] s (s.reconfigured u old new) := by
  have frame := (lowered_handing s u old new).frame
  unfold State.reconfigured
  split
  · exact frame.trans ((evalRestricted_frame _).mono (by decide))
  · exact frame

theorem reconfigured_passes : (s.reconfigured u old new).engine.passes = s.engine.passes := by
  unfold State.reconfigured
  split
  · rw [(evalRestricted_frame _).engine, (lowered_handing s u old new).passes]
  · exact (lowered_handing s u old new).passes

theorem reconfigured_motion : (s.reconfigured u old new).motion
    = { (s.lowered u old new).motion with restricted := (s.reconfigured u old new).motion.restricted } := by
  unfold State.reconfigured
  split
  · rw [evalRestricted_motion]
  · rfl

theorem reconfigured_sameAt (v : TowerIdx) (z : ZoneIdx) : SameAt (s.lowered u old new) (s.reconfigured u old new) v z := by
  unfold State.reconfigured
  split
  · exact evalRestricted_sameAt ..
  · exact .refl ..

theorem reconfigured_records {k : Fin 8} (restricted : k ≠ 2) :
    look (s.reconfigured u old new).notice.records k = look (s.lowered u old new).notice.records k := by
  unfold State.reconfigured
  split
  · exact evalRestricted_records _ restricted
  · rfl

theorem handOnConfigure_handedOver (stays : (old.enabled && !new.enabled) = false) :
    handOnConfigure u old new s = dispatchScan (s.handedOver u old new) := by
  have pass : (s.reconfigured u old new).pass u = s.pass u := congrArg (look · u) (reconfigured_passes s u old new)
  have jobs := (reconfigured_frame s u old new).jobs
  have configured : configured u old new s = s.lowered u old new := if_neg (by rw [stays]; decide)
  rw [handOnConfigure_eq, configured]
  change dispatchScan (if new.enabled then configurePass u old new (s.reconfigured u old new) else s.reconfigured u old new) = _
  unfold State.handedOver State.updatedZones
  congr 1
  split
  · have released : (s.reconfigured u old new).released u old new = s.released u old new := funext fun z => by
      rw [State.released, State.released, pass, running_congr jobs]
    rw [configurePass_eq, released, State.passConfigured, State.passConfigured, pass, running_congr jobs, tower_congr jobs]
  · rw [← pass, putPass_same]
    rfl

/-- The zones and passes as the Zone Updates of a Configure Tower find them. -/
def State.passCaused (s : State) (u : TowerIdx) (old new : TowerSettings) : State :=
  (s.reconfigured u old new).putPass u (if new.enabled then s.passConfigured u old new else s.pass u)

theorem passCaused_frame : OnlyChanges [.engine, .motion, .notice] s (s.passCaused u old new) :=
  (reconfigured_frame s u old new).trans ((putPass_frame _ _ _).mono (by decide))

theorem passCaused_pass (v : TowerIdx) : (s.passCaused u old new).pass v
    = if u = v then (if new.enabled then s.passConfigured u old new else s.pass u) else s.pass v := by
  unfold State.passCaused
  rw [putPass_pass]
  split
  · rfl
  · exact congrArg (look · v) (reconfigured_passes s u old new)

theorem passCaused_own (z : ZoneIdx) : SameAt (s.afterClamp u z old.keyMax new.keyMax) (s.passCaused u old new) u z :=
  ((lowered_own s u old new z).trans (reconfigured_sameAt s u old new u z)).trans ⟨rfl, rfl, rfl⟩

theorem passCaused_other {v : TowerIdx} (other : v ≠ u) (z : ZoneIdx) : SameAt s (s.passCaused u old new) v z :=
  ((lowered_other s u old new other z).trans (reconfigured_sameAt s u old new v z)).trans ⟨rfl, rfl, rfl⟩

theorem handedOver_handing : Handing (s.passCaused u old new) (s.handedOver u old new) := zoneUpdates_handing u _ _

theorem updatedZones_nodup : (s.updatedZones u old new).Nodup := by
  unfold State.updatedZones
  split
  · exact allZones_nodup.filter _
  · exact .nil

theorem mem_updatedZones {z : ZoneIdx} : z ∈ s.updatedZones u old new ↔ new.enabled = true ∧ s.released u old new z = true := by
  unfold State.updatedZones
  split
  · next on => simp [on]
  · next off => simp [off]

theorem handedOver_sameAt : (∀ v z, (v ≠ u ∨ z ∉ s.updatedZones u old new) →
      SameAt (s.passCaused u old new) (s.handedOver u old new) v z)
    ∧ ∀ z ∈ s.updatedZones u old new,
      SameAt (zoneUpdate u z (s.passCaused u old new)) (s.handedOver u old new) u z :=
  Locally.foldl_zones (zoneUpdate_locally u) (updatedZones_nodup s u old new) (s.passCaused u old new)

theorem handedOver_other {v : TowerIdx} (other : v ≠ u) (z : ZoneIdx) : SameAt s (s.handedOver u old new) v z :=
  (passCaused_other s u old new other z).trans ((handedOver_sameAt s u old new).1 v z (.inl other))

/-- A zone that is not updated, or that has no Key Target, is left as the clamp leaves it. -/
theorem handedOver_left {z : ZoneIdx} (left : z ∉ s.updatedZones u old new ∨ s.targetOf u z = none) :
    SameAt (s.afterClamp u z old.keyMax new.keyMax) (s.handedOver u old new) u z := by
  refine (passCaused_own s u old new z).trans ?_
  obtain ⟨outside, inside⟩ := handedOver_sameAt s u old new
  by_cases member : z ∈ s.updatedZones u old new
  · have absent := left.resolve_left (not_not.2 member)
    have kept : s.afterClamp u z old.keyMax new.keyMax = s := by
      rw [State.afterClamp, absent]
    have none : (s.passCaused u old new).targetOf u z = none := by
      rw [(passCaused_own s u old new z).target, kept, absent]
    have same := inside z member
    rwa [zoneUpdate_none none] at same
  · exact outside u z (.inr member)

theorem released_passed {z : ZoneIdx} (updated : z ∈ s.updatedZones u old new) :
    ((s.passCaused u old new).pass u).hasPassed z = true := by
  obtain ⟨on, released⟩ := (mem_updatedZones s u old new).1 updated
  obtain ⟨active, changed, ready, -⟩ := released_iff.1 released
  rw [passCaused_pass, if_pos rfl, if_pos on, State.passConfigured, if_pos ⟨active, changed⟩, abandon_caused, if_neg (by rw [ready]; decide)]
  rfl

/-- What a hand-on of a rewritten Key Target makes of the zone depends on the zone, its MOVEs and the settings in force. -/
theorem rewriteTarget_zone_congr {s t : State} {u : TowerIdx} {z : ZoneIdx} (jobs : t.jobs = s.jobs)
    (phase : t.cycle.phase = s.cycle.phase) (same : SameAt s t u z) (g : Target) (k : Nat) : (rewriteTarget u z g k t).zone u z = (rewriteTarget u z g k s).zone u z := by
  unfold rewriteTarget
  have zone : (t.putTarget u z (some { g with k := k })).zone u z = (s.putTarget u z (some { g with k := k })).zone u z := same.zone
  have moves : (t.putTarget u z (some { g with k := k })).moves u z = (s.putTarget u z (some { g with k := k })).moves u z :=
    same.moves
  have tower : (t.putTarget u z (some { g with k := k })).tower u = (s.putTarget u z (some { g with k := k })).tower u :=
    tower_congr jobs u
  have phase : (t.putTarget u z (some { g with k := k })).cycle.phase = (s.putTarget u z (some { g with k := k })).cycle.phase :=
    phase
  rw [handTarget_zone_eq, handTarget_zone_eq, zone, moves]
  simp only [State.withinDeadband, State.mayMove, zone, tower, phase]

/-- An updated zone is left with its rewritten Key Target handed on. -/
theorem handedOver_updated {z : ZoneIdx} {g : Target} (updated : z ∈ s.updatedZones u old new)
    (target : (s.afterClamp u z old.keyMax new.keyMax).targetOf u z = some g) :
    let k := keyTarget g.b (s.trimOf u z).trim ((s.tower u).offsetOf z) (s.tower u).keyMax
    (s.handedOver u old new).targetOf u z = some { g with k := k }
      ∧ (s.handedOver u old new).zone u z = (rewriteTarget u z g k (s.afterClamp u z old.keyMax new.keyMax)).zone u z := by
  have own := passCaused_own s u old new z
  have frame := passCaused_frame s u old new
  have same := (handedOver_sameAt s u old new).2 z updated
  rw [zoneUpdate_passed (own.target.trans target) (released_passed s u old new updated), trimOf_congr frame.trim,
    tower_congr frame.jobs] at same
  refine ⟨by rw [same.target, rewriteTarget_targetOf, if_pos ⟨rfl, rfl⟩], same.zone.trans ?_⟩
  have clamped := afterClamp_frame s u z old.keyMax new.keyMax
  exact rewriteTarget_zone_congr (frame.jobs.trans clamped.jobs.symm) (congrArg Cycle.phase (frame.cycle.trans clamped.cycle.symm)) own _ _

theorem afterClamp_defined {z : ZoneIdx} {g : Target} {keyMax keyMax' : Nat} (target : s.targetOf u z = some g) :
    ∃ g', (s.afterClamp u z keyMax keyMax').targetOf u z = some g' := by
  rw [State.afterClamp, target]
  dsimp only
  split
  · exact ⟨_, by rw [handTarget_targetOf, putTarget_targetOf, if_pos ⟨rfl, rfl⟩]⟩
  · exact ⟨g, target⟩

/-- Key Targets within the old key maximum are brought within the new one. -/
theorem handedOver_le (inForce : (s.tower u).keyMax = new.keyMax) (within : ∀ z g, s.targetOf u z = some g → g.k ≤ old.keyMax)
    {z : ZoneIdx} {g : Target} (target : (s.handedOver u old new).targetOf u z = some g) : g.k ≤ new.keyMax := by
  by_cases left : z ∉ s.updatedZones u old new ∨ s.targetOf u z = none
  · have same := (handedOver_left s u old new left).symm.trans (lowered_own s u old new z)
    exact lowered_le s u old new within (same.target.trans target)
  · rw [not_or, not_not] at left
    obtain ⟨update, present⟩ := left
    obtain ⟨g0, before⟩ := Option.ne_none_iff_exists'.1 present
    obtain ⟨g', clamped⟩ := afterClamp_defined s u before (keyMax := old.keyMax) (keyMax' := new.keyMax)
    obtain ⟨written, -⟩ := handedOver_updated s u old new update clamped
    obtain rfl := Option.some.inj (written.symm.trans target)
    exact (keyTarget_le ..).trans_eq inForce

theorem handedOver_frame : OnlyChanges [.engine, .motion, .notice] s (s.handedOver u old new) :=
  (passCaused_frame s u old new).trans (handedOver_handing s u old new).frame

theorem handedOver_pass (v : TowerIdx) : (s.handedOver u old new).pass v
    = if u = v then (if new.enabled then s.passConfigured u old new else s.pass u) else s.pass v :=
  (congrArg (look · v) (handedOver_handing s u old new).passes).trans (passCaused_pass s u old new v)

theorem handedOver_limits : (s.handedOver u old new).motion.cap = s.motion.cap
    ∧ (s.handedOver u old new).motion.timeout = s.motion.timeout
    ∧ (s.handedOver u old new).motion.concurrency = s.motion.concurrency
    ∧ (s.handedOver u old new).motion.restricted = (s.reconfigured u old new).motion.restricted := by
  have motion := (handedOver_handing s u old new).motion
  have before : (s.passCaused u old new).motion
      = { (s.lowered u old new).motion with restricted := (s.reconfigured u old new).motion.restricted } :=
    reconfigured_motion s u old new
  have lowered := (lowered_handing s u old new).motion
  rw [motion, before, lowered]
  exact ⟨rfl, rfl, rfl, rfl⟩

theorem handedOver_records {k : Fin 8} (settled : k ≠ 7) :
    look (s.handedOver u old new).notice.records k = look (s.reconfigured u old new).notice.records k :=
  (handedOver_handing s u old new).records k settled

theorem handedOver_other_records {k : Fin 8} (restricted : k ≠ 2) (settled : k ≠ 7) :
    look (s.handedOver u old new).notice.records k = look s.notice.records k := by
  rw [handedOver_records s u old new settled, reconfigured_records s u old new restricted,
    (lowered_handing s u old new).records k settled]

/-- Where nothing is handed on, no SETTLED is raised. -/
theorem handedOver_quiet (raised : old.keyMax ≤ new.keyMax) (none : s.updatedZones u old new = []) :
    (s.handedOver u old new).motion.watch = s.motion.watch
      ∧ look (s.handedOver u old new).notice.records 7 = look s.notice.records 7 := by
  have kept := lowered_kept s u old new raised
  have left : s.handedOver u old new = s.passCaused u old new := by
    change zoneUpdates u (s.updatedZones u old new) (s.passCaused u old new) = _
    rw [none]
    rfl
  rw [left]
  constructor
  · have motion : (s.passCaused u old new).motion = (s.reconfigured u old new).motion := rfl
    rw [motion, reconfigured_motion, kept]
  · have records := reconfigured_records s u old new (k := 7) (by decide)
    rw [kept] at records
    exact records

theorem handOnConfigure_stays_frame (stays : (old.enabled && !new.enabled) = false) :
    OnlyChanges [.engine, .motion, .trim, .notice] s (handOnConfigure u old new s) := by
  rw [handOnConfigure_handedOver s u old new stays]
  exact ((handedOver_frame s u old new).mono (by decide)).trans ((dispatchScan_frame _).mono (by decide))

end

/-! ### The record written, handed on and answered -/

/-- `t` is what a Configure Tower of tower `u` of the running job leaves of `s`, its record written as `new` in `b`. -/
structure RecordConfigured (s b t : State) (u : TowerIdx) (old new : TowerSettings) : Prop where
  written : OnlyChanges [.jobs, .link] s b
  inForce : ∀ v, b.tower v = if u = v then new else s.tower v
  handed : OnlyChanges [.link] (handOnConfigure u old new b) t

/-- An accepted Configure Tower of the running job. -/
theorem takeRequest_configured {s : State} {f : Frame} {rest : List Frame} {j : SlotIdx} {u : TowerIdx}
    (waits : Waits s .configureTower f rest) (length : f.payload.length = 13) (ok : configOk f.payload = true)
    (slot : u8 f.payload 0 = j.val) (tower : u8 f.payload 1 = u.val) (running : s.runningSlot = some j) {bs : List Block}
    (frame : ∀ w, OnlyChanges bs w (handOnConfigure u (s.record j u) ((s.record j u).configure f.payload) w))
    (link : Block.link ∉ bs := by decide) (jobs : Block.jobs ∉ bs := by decide) :
    let t := takeRequest .configureTower configureTower s
    let new := (s.record j u).configure f.payload
    Answered s f rest 0 (loadAnswer j u t) t ∧ OnlyChanges (.jobs :: .link :: bs) s t
      ∧ JobWritten s t j (look s.jobs j).job.label (s.withRecord j u new)
      ∧ ∃ b, RecordConfigured s b t u (s.record j u) new ∧ look b.running.ready u = towerReady s.library new := by
  intro t new
  have isRunning := isRunning_of_runningSlot running
  have unarmed := JobSlot.not_armed_of_running isRunning
  obtain ⟨answered, written, -, handed⟩ := takeRequest_handedOn waits (r := new) (F := handOnConfigure u (s.record j u) new)
    unarmed (fun w left => configureTower_accepted (s := s.taken rest) length ok slot tower unarmed left) frame link jobs
  rw [List.append_nil] at answered
  obtain ⟨changes, after⟩ := handed isRunning
  have ready := written_ready (s := s.taken rest) running u new u
  rw [if_pos rfl] at ready
  refine ⟨answered, changes, written, _, ⟨?_, (rewritten_written (s.taken rest) j u new).tower_running running, after⟩, ready⟩
  exact ((taken_frame s rest).mono (by decide)).trans ((rewritten_frame (s.taken rest) j u new).mono (by decide))

section
variable {s b t : State} {u : TowerIdx} {old new : TowerSettings} (h : RecordConfigured s b t u old new)
include h

theorem RecordConfigured.jobs : b.jobs = t.jobs := (h.handed.jobs.trans (handOnConfigure_frame u old new b).jobs).symm

theorem RecordConfigured.tower : b.tower u = new := (h.inForce u).trans (if_pos rfl)

theorem RecordConfigured.pass (v : TowerIdx) : b.pass v = s.pass v := congrArg (fun e : Engine => look e.passes v) h.written.engine

theorem RecordConfigured.trimOf (v : TowerIdx) (z : ZoneIdx) : b.trimOf v z = s.trimOf v z := trimOf_congr h.written.trim v z

theorem RecordConfigured.record (k : Fin 8) : look b.notice.records k = look s.notice.records k := by rw [h.written.notice]

theorem RecordConfigured.stands (v : TowerIdx) (z : ZoneIdx) : SameAt s b v z :=
  ⟨zone_congr h.written.motion v z, targetOf_congr h.written.engine v z,
    moves_congr (congrArg Motion.queue h.written.motion) v z⟩

/-- The clamp of a zone in `s` under the jobs that are left is that of `b`. -/
theorem RecordConfigured.clamps (z : ZoneIdx) :
    SameAt ((s.setJobs t.jobs).afterClamp u z old.keyMax new.keyMax) (b.afterClamp u z old.keyMax new.keyMax) u z := by
  have context : SameContext (s.setJobs t.jobs) b :=
    ⟨h.jobs, h.written.cycle, congrArg Engine.passes h.written.engine, h.written.trim⟩
  have same : SameAt (s.setJobs t.jobs) b u z := ⟨(h.stands u z).zone, (h.stands u z).target, (h.stands u z).moves⟩
  exact afterClamp_sameAt context same _ _

theorem RecordConfigured.lowered : (b.lowered u old new).motion.cap = s.motion.cap
    ∧ (b.lowered u old new).motion.concurrency = s.motion.concurrency
    ∧ (b.lowered u old new).motion.restricted = s.motion.restricted := by
  rw [← h.written.motion]
  exact lowered_limits b u old new

theorem RecordConfigured.exhausted : ScanExhausted t :=
  (dispatchScan_exhausted _).congr h.handed.motion h.handed.engine h.handed.jobs h.handed.cycle

/-! ### Its parts where no enabled tower is disabled -/

variable (keeps : (old.enabled && !new.enabled) = false)
include keeps

theorem RecordConfigured.scanned : OnlyChanges [.link] (dispatchScan (b.handedOver u old new)) t :=
  handOnConfigure_handedOver b u old new keeps ▸ h.handed

theorem RecordConfigured.caused (v : TowerIdx) : t.pass v
    = if u = v then (if new.enabled then b.passConfigured u old new else s.pass u) else s.pass v := by
  have scanned := dispatchScan_scanned (b.handedOver u old new)
  have pass := congrArg (fun e : Engine => look e.passes v) ((h.scanned keeps).engine.trans scanned.frame.engine)
  rw [← h.pass, ← h.pass]
  exact pass.trans (handedOver_pass b u old new v)

theorem RecordConfigured.targetOf (v : TowerIdx) (z : ZoneIdx) : t.targetOf v z = (b.handedOver u old new).targetOf v z :=
  (targetOf_congr (h.scanned keeps).engine v z).trans ((dispatchScan_scanned _).targetOf v z)

theorem RecordConfigured.started (v : TowerIdx) (z : ZoneIdx) : StartedOrSame (b.handedOver u old new) t v z :=
  ((dispatchScan_scanned _).zones v z).congr rfl rfl (zone_congr (h.scanned keeps).motion v z)

theorem RecordConfigured.left {z : ZoneIdx} (left : z ∉ b.updatedZones u old new ∨ s.targetOf u z = none) :
    let clamped := (s.setJobs t.jobs).afterClamp u z old.keyMax new.keyMax
    t.targetOf u z = clamped.targetOf u z ∧ StartedOrSame clamped t u z := by
  have same := (h.clamps z).trans (handedOver_left b u old new (z := z) (left.imp id fun absent =>
    (h.stands u z).target.trans absent))
  exact ⟨(h.targetOf keeps u z).trans same.target, (h.started keeps u z).congr same.zone.symm same.target.symm rfl⟩

theorem RecordConfigured.updated {z : ZoneIdx} {g : Target} (updated : z ∈ b.updatedZones u old new)
    (target : ((s.setJobs t.jobs).afterClamp u z old.keyMax new.keyMax).targetOf u z = some g) :
    HandedOn ((s.setJobs t.jobs).afterClamp u z old.keyMax new.keyMax) t u z
      { g with k := keyTarget g.b (s.trimOf u z).trim (new.offsetOf z) new.keyMax } := by
  have clamped := h.clamps z
  obtain ⟨written, zone⟩ := handedOver_updated b u old new updated (clamped.target.trans target)
  rw [h.trimOf, h.tower] at written zone
  have frame := afterClamp_frame b u z old.keyMax new.keyMax
  have frame' := afterClamp_frame (s.setJobs t.jobs) u z old.keyMax new.keyMax
  have jobs := frame.jobs.trans (h.jobs.trans frame'.jobs.symm)
  have cycle := frame.cycle.trans (h.written.cycle.trans frame'.cycle.symm)
  refine ⟨(h.targetOf keeps u z).trans written, (h.started keeps u z).congr ?_ ?_ rfl, fun _ _ => h.exhausted⟩
  · exact (zone.trans (rewriteTarget_zone_congr jobs (congrArg Cycle.phase cycle) clamped g _)).symm
  · rw [handTarget_targetOf, putTarget_targetOf, if_pos ⟨rfl, rfl⟩]
    exact written.symm

theorem RecordConfigured.others {v : TowerIdx} (other : v ≠ u) (z : ZoneIdx) :
    t.targetOf v z = s.targetOf v z ∧ StartedOrSame s t v z := by
  have same := (h.stands v z).trans (handedOver_other b u old new other z)
  exact ⟨(h.targetOf keeps v z).trans same.target, (h.started keeps v z).congr same.zone.symm same.target.symm rfl⟩

theorem RecordConfigured.limits : SameLimits s t ∧ t.motion.restricted = (b.reconfigured u old new).motion.restricted := by
  obtain ⟨cap, timeout, concurrency, restricted⟩ := handedOver_limits b u old new
  unfold SameLimits
  rw [(h.scanned keeps).motion, (dispatchScan_scanned _).motion, ← h.written.motion]
  exact ⟨⟨cap, timeout, concurrency⟩, restricted⟩

theorem RecordConfigured.notices {k : Fin 8} (settled : k ≠ 7) :
    look t.notice.records k = look (b.reconfigured u old new).notice.records k := by
  rw [(h.scanned keeps).notice, (dispatchScan_scanned _).notice, handedOver_records b u old new settled]

/-- Restricted Motion is re-evaluated where the enabled field changed, with the tower then enabled (R82). -/
theorem RecordConfigured.reevaluated (changed : old.enabled ≠ new.enabled) :
    Reevaluated s t fun v => v = u || (s.tower v).enabled := by
  have on : new.enabled = true := by
    by_contra off
    rw [Bool.eq_false_iff.2 off, Bool.not_false, Bool.and_true] at keeps
    exact changed (keeps.trans (Bool.eq_false_iff.2 off).symm)
  have evaluated : b.reconfigured u old new = evalRestricted (b.lowered u old new) := if_pos (bne_iff_ne.2 changed)
  have lowers := lowered_handing b u old new
  obtain ⟨cap, concurrency, restricted⟩ := h.lowered
  refine evalRestricted_reevaluated (c := b.lowered u old new) cap concurrency restricted ?_ ?_ (fun v => ?_)
    (evaluated ▸ (h.limits keeps).2) (evaluated ▸ h.notices keeps (by decide))
  · rw [lowers.records 2 (by decide), h.record]
  · rw [lowers.frame.cycle, h.written.cycle]
  · rw [tower_congr lowers.frame.jobs, h.inForce]
    by_cases here : u = v
    · rw [if_pos here, on, decide_eq_true here.symm, Bool.true_or]
    · rw [if_neg here, decide_eq_false (Ne.symm here), Bool.false_or]

theorem RecordConfigured.not_reevaluated (same : old.enabled = new.enabled) :
    t.motion.restricted = s.motion.restricted ∧ look t.notice.records 2 = look s.notice.records 2 := by
  have kept : b.reconfigured u old new = b.lowered u old new := if_neg (by simp [same])
  rw [(h.limits keeps).2, h.notices keeps (by decide), kept, (lowered_handing b u old new).records 2 (by decide), h.record]
  exact ⟨h.lowered.2.2, rfl⟩

/-- No SETTLED is raised where nothing is handed on. -/
theorem RecordConfigured.quiet (raised : old.keyMax ≤ new.keyMax) (none : b.updatedZones u old new = []) :
    t.motion.watch = s.motion.watch ∧ look t.notice.records 7 = look s.notice.records 7 := by
  obtain ⟨watch, record⟩ := handedOver_quiet b u old new raised none
  rw [(h.scanned keeps).notice, (dispatchScan_scanned _).notice, record, h.record, (h.scanned keeps).motion,
    (dispatchScan_scanned _).watch, watch, h.written.motion]
  exact ⟨rfl, rfl⟩

end

end Sys2Proof.Machine
end

section
/-! PROOF. Configure Tower of the RUNNING slot (R23, R54, R64). -/

set_option Elab.async false

namespace Sys2Proof.Machine

theorem curvesChanged_iff {old new : TowerSettings} : curvesChanged old new = true
    ↔ ¬ (old.keyCurve = new.keyCurve ∧ old.sweepCurve = new.sweepCurve) := by
  rw [curvesChanged, Bool.or_eq_true, bne_iff_ne, bne_iff_ne, not_and_or]

/-- Settles O25: the clamp, Restricted Motion, the Pass Cause with the zones it releases, and the scan, on the record written. -/
theorem configuringARunningTowerCausesAPass : Obligations.ConfiguringARunningTowerCausesAPass := by
  unfold Obligations.ConfiguringARunningTowerCausesAPass
  intro s f rest j u waits length ok slot tower running old new on ready mean sameCurves updated stays
  have enabledIff : new.enabled = true ↔ on := beq_iff_eq
  have keeps : (old.enabled && !new.enabled) = false := by
    rw [Bool.and_eq_false_iff, Bool.not_eq_false', enabledIff]
    exact stays.symm
  obtain ⟨answered, frame, written, b, h, readyIs⟩ := takeRequest_configured waits length ok slot tower running
    fun w => handOnConfigure_stays_frame w u old new keeps
  refine ⟨takeRequest .configureTower configureTower s, rfl, answered, frame.mono (by decide), written, ?_⟩
  generalize takeRequest .configureTower configureTower s = t at h
  have meanIs : new.mean? = mean := rfl
  have passIs : b.passConfigured u old new
      = (if (s.pass u).state = .active ∧ curvesChanged old new = true then (s.pass u).abandon else s.pass u).caused ready mean := by
    unfold State.passConfigured
    rw [h.pass, readyIs, h.tower, meanIs]
  have member (z) : z ∈ b.updatedZones u old new ↔ updated z := by
    rw [mem_updatedZones, released_iff, enabledIff, curvesChanged_iff, h.pass, readyIs]
  refine ⟨fun on kept => ?_, fun on active changed => ?_, fun off => ?_, fun v other => ?_, fun within z g defined => ?_,
    fun z => ⟨fun left => h.left keeps (left.imp (mt (member z).1) id), fun g update => h.updated keeps ((member z).2 update)⟩,
    fun v z other => h.others keeps other z, fun v z => ?_, (h.limits keeps).1, h.reevaluated keeps, h.not_reevaluated keeps,
    fun raised quiet => h.quiet keeps raised (List.eq_nil_iff_forall_not_mem.2 fun z => mt (member z).1 (quiet z)),
    fun k restricted settled => ?_, h.exhausted⟩
  · rw [h.caused keeps, if_pos rfl, if_pos (enabledIff.2 on), passIs, if_neg]
    rintro ⟨active, changed⟩
    obtain none | same := kept
    · rw [none] at active
      cases active
    · exact curvesChanged_iff.1 changed same
  · rw [h.caused keeps, if_pos rfl, if_pos (enabledIff.2 on), passIs, if_pos ⟨active, curvesChanged_iff.2 changed⟩]
    rfl
  · rw [h.caused keeps, if_pos rfl, if_neg (mt enabledIff.1 off)]
  · rw [h.caused keeps, if_neg other.symm]
  · refine handedOver_le b u old new (by rw [h.tower]) (fun x g' before => within x g' ?_) ((h.targetOf keeps u z).symm.trans defined)
    exact (h.stands u x).target.symm.trans before
  · rw [trimOf_congr (h.scanned keeps).trim, ((dispatchScan_scanned _).trims v z).1,
      trimOf_congr (handedOver_frame b u old new).trim, h.trimOf]
  · rw [(h.scanned keeps).notice, (dispatchScan_scanned _).notice, handedOver_other_records b u old new restricted settled, h.record]

end Sys2Proof.Machine
end

section
/-! SUPPORT. A disabled tower of the running job (R24). -/

set_option Elab.async false

namespace Sys2Proof.Machine

/-- Zones told that they have no Key Target raise no SETTLED while the Settle Watch of their tower is clear (R96). -/
theorem withdrawTargets_quiet {u : TowerIdx} (zs : List ZoneIdx) {s : State} (clear : look s.motion.watch u = false) :
    (withdrawTargets u zs s).motion.watch = s.motion.watch ∧ (withdrawTargets u zs s).notice = s.notice := by
  induction zs generalizing s with
  | nil => exact ⟨rfl, rfl⟩
  | cons z zs ih =>
    change (withdrawTargets u zs (withdrawTarget u z s)).motion.watch = _ ∧ (withdrawTargets u zs (withdrawTarget u z s)).notice = _
    obtain ⟨watch, notice⟩ : (withdrawTarget u z s).motion.watch = s.motion.watch ∧ (withdrawTarget u z s).notice = s.notice :=
      setMotionState_quiet (.inl clear)
    obtain ⟨watch', notice'⟩ := ih (s := withdrawTarget u z s) (by rw [watch, clear])
    exact ⟨watch'.trans watch, notice'.trans notice⟩

section
variable (u : TowerIdx) (s : State)

/-- A tower whose zones lose E, B and K and are told so, with its Settle Watch cleared first (R24, R96). -/
def State.withdrawn (u : TowerIdx) (s : State) : State :=
  withdrawTargets u allZones (dropTargets (fun t' _ => t' == u) (clearWatches (fun t' => t' == u) s))

/-- The tower withdrawn, its pass abandoned and its trims cleared. -/
def State.untargeted (u : TowerIdx) (s : State) : State :=
  clearTowerTrim u ((s.withdrawn u).putPass u { ((s.withdrawn u).pass u).abandon with sweep := none })

theorem disableTower_eq : disableTower u s = leaveHold u (s.untargeted u) := rfl

theorem withdrawn_handing : Handing (clearWatches (fun t' => t' == u) s) (s.withdrawn u) :=
  (dropTargets_handing _ _).trans (withdrawTargets_handing u _ _)

theorem withdrawn_quiet : (s.withdrawn u).motion.watch = tab (fun v => look s.motion.watch v && !(v == u))
    ∧ (s.withdrawn u).notice = s.notice := by
  have clear : look (dropTargets (fun t' _ => t' == u) (clearWatches (fun t' => t' == u) s)).motion.watch u = false := by
    change look (tab fun v => look s.motion.watch v && !(v == u)) u = false
    rw [look_tab, beq_self_eq_true, Bool.not_true, Bool.and_false]
  obtain ⟨watch, notice⟩ := withdrawTargets_quiet allZones clear
  unfold State.withdrawn
  rw [watch, notice]
  exact ⟨rfl, rfl⟩

theorem withdrawn_zone (v : TowerIdx) (z : ZoneIdx) : (s.withdrawn u).zone v z
    = if u = v then { s.zone v z with state := (s.zone v z).state.withoutTarget } else s.zone v z := by
  unfold State.withdrawn
  rw [withdrawTargets_zone]
  simp only [mem_allZones, and_true]
  rfl

/-- A block that is unchanged may be left off the list. -/
theorem OnlyChanges.except {b : Block} {bs : List Block} {s t : State} (h : OnlyChanges (b :: bs) s t) (same : b.same s t) :
    OnlyChanges bs s t := fun c out => by
  by_cases here : c = b
  · exact here ▸ same
  · exact h c fun member => (List.mem_cons.1 member).elim here out

theorem untargeted_frame : OnlyChanges [.engine, .motion, .trim] s (s.untargeted u) := by
  have cleared := clearWatches_frame (fun t' => t' == u) s
  have frame : OnlyChanges [.notice, .engine, .motion] s (s.withdrawn u) :=
    (cleared.mono (by decide)).trans ((withdrawn_handing u s).frame.mono (by decide))
  have withdrawn : OnlyChanges [.engine, .motion] s (s.withdrawn u) := frame.except (withdrawn_quiet u s).2
  exact (withdrawn.mono (by decide)).trans (((putPass_frame _ _ _).mono (by decide)).trans ((clearTowerTrim_frame _ _).mono (by decide)))

theorem untargeted_motion : (s.untargeted u).motion = (s.withdrawn u).motion := by
  unfold State.untargeted
  rw [(clearTowerTrim_frame _ _).motion, putPass_motion]

theorem withdrawn_motion : (s.withdrawn u).motion = { s.motion with
    zones := (s.withdrawn u).motion.zones, queue := (s.withdrawn u).motion.queue, watch := (s.withdrawn u).motion.watch } := by
  have motion := (withdrawn_handing u s).motion
  generalize s.withdrawn u = w at motion
  rw [motion]
  rfl

theorem withdrawn_sweeps : (s.withdrawn u).sweeps = s.sweeps := (withdrawn_handing u s).sweeps

theorem untargeted_pass (v : TowerIdx) : (s.untargeted u).pass v
    = if u = v then { s.pass u with state := .none, rerun := false, sweep := none } else s.pass v := by
  have passes : (s.withdrawn u).engine.passes = s.engine.passes := (withdrawn_handing u s).passes
  have pass (x) : (s.withdrawn u).pass x = s.pass x := congrArg (look · x) passes
  have engine : (s.untargeted u).engine = ((s.withdrawn u).putPass u { ((s.withdrawn u).pass u).abandon with sweep := none }).engine :=
    (clearTowerTrim_frame _ _).engine
  rw [State.pass, engine, ← State.pass, putPass_pass, pass, pass]
  rfl

theorem untargeted_trim : (s.untargeted u).trim = (clearTowerTrim u s).trim := by
  have trim : ((s.withdrawn u).putPass u { ((s.withdrawn u).pass u).abandon with sweep := none }).trim = s.trim :=
    (putPass_trim ..).trans (withdrawn_handing u s).frame.trim
  unfold State.untargeted clearTowerTrim
  rw [setTrim_trim, setTrim_trim]
  simp only [State.trimOf, trim]

/-! ### The tower disabled, with the Hold Tower Set left (R24, R129) -/

theorem disableTower_motion : (disableTower u s).motion = (s.withdrawn u).motion := by
  rw [disableTower_eq, (leaveHold_frame _ _).motion, untargeted_motion]

theorem disableTower_zone (v : TowerIdx) (z : ZoneIdx) : (disableTower u s).zone v z
    = if u = v then { s.zone v z with state := (s.zone v z).state.withoutTarget } else s.zone v z := by
  rw [zone_congr (disableTower_motion u s), withdrawn_zone]

theorem disableTower_pass (v : TowerIdx) : (disableTower u s).pass v
    = if u = v then { s.pass u with state := .none, rerun := false, sweep := none } else s.pass v := by
  rw [disableTower_eq, State.pass, (leaveHold_frame _ _).engine, ← State.pass, untargeted_pass]

theorem disableTower_trim : (disableTower u s).trim = (clearTowerTrim u s).trim := by
  rw [disableTower_eq, (leaveHold_frame _ _).trim, untargeted_trim]

theorem disableTower_cycle : (disableTower u s).cycle = { s.cycle with hold := put s.cycle.hold u false } := by
  rw [disableTower_eq, leaveHold_cycle, (untargeted_frame u s).cycle]

theorem disableTower_records (k : Fin 8) : look (disableTower u s).notice.records k
    = if k = 1 ∧ look s.cycle.hold u = true ∧ ∀ v, v ≠ u → look s.cycle.hold v = false
      then some (mergeNotice (look s.notice.records 1) none .absent s.cycle.sheetCount) else look s.notice.records k := by
  rw [disableTower_eq, leaveHold_records, (untargeted_frame u s).cycle, (untargeted_frame u s).notice]

theorem disableTower_limits : (disableTower u s).motion.cap = s.motion.cap
    ∧ (disableTower u s).motion.concurrency = s.motion.concurrency
    ∧ (disableTower u s).motion.restricted = s.motion.restricted := by
  rw [disableTower_motion, withdrawn_motion]
  exact ⟨rfl, rfl, rfl⟩

theorem disableTower_sweeps : (disableTower u s).sweeps = s.sweeps := by
  rw [sweeps_congr (congrArg Motion.queue (disableTower_motion u s)), withdrawn_sweeps]

theorem evalRestricted_sweeps : (evalRestricted s).sweeps = s.sweeps := sweeps_congr (by rw [evalRestricted_motion])

theorem evalRestricted_watch : (evalRestricted s).motion.watch = s.motion.watch := by rw [evalRestricted_motion]

theorem disableTower_watch : look (disableTower u s).motion.watch u = false := by
  rw [disableTower_motion, (withdrawn_quiet u s).1, look_tab, beq_self_eq_true, Bool.not_true, Bool.and_false]

/-- The hand-ons of a Configure Tower that disables an enabled tower (R23, R24). -/
theorem handOnConfigure_disables {old new : TowerSettings} (enabled : old.enabled = true) (off : new.enabled = false) :
    handOnConfigure u old new s = dispatchScan (evalRestricted (disableTower u (s.lowered u old new))) := by
  have configured : configured u old new s = disableTower u (s.lowered u old new) := if_pos (by rw [enabled, off]; decide)
  rw [handOnConfigure_eq, configured]
  generalize disableTower u (s.lowered u old new) = d
  rw [off, enabled, if_neg (by decide), if_pos (by decide)]

end

/-! ### The record written and the tower disabled, in the answered state -/

/-- A zone without a Key Target is not started by a Dispatch Scan. -/
theorem StartedOrSame.of_none {s t : State} {u : TowerIdx} {z : ZoneIdx} (h : StartedOrSame s t u z) (none : s.targetOf u z = none) :
    t.zone u z = s.zone u z := by
  obtain same | ⟨-, g, target, -⟩ := h
  · exact same
  · rw [none] at target
    cases target

/-- From `s`, with a record written, Key Targets clamped as `c` has them, tower `u` is disabled, and `t` is left. -/
structure TowerDisabled (s c t : State) (u : TowerIdx) : Prop where
  engine : c.engine.passes = s.engine.passes
  trim : c.trim = s.trim
  cycle : c.cycle = s.cycle
  motion : c.motion = { s.motion with zones := c.motion.zones, queue := c.motion.queue, watch := c.motion.watch }
  sweeps : c.sweeps = s.sweeps
  records : ∀ k, k ≠ 7 → look c.notice.records k = look s.notice.records k
  left : OnlyChanges [.link] (dispatchScan (evalRestricted (disableTower u c))) t

theorem RecordConfigured.disabled {s b t : State} {u : TowerIdx} {old new : TowerSettings} (h : RecordConfigured s b t u old new)
    (enabled : old.enabled = true) (off : new.enabled = false) : TowerDisabled s (b.lowered u old new) t u := by
  have lowers := lowered_handing b u old new
  have same := h.written
  refine ⟨lowers.passes.trans (congrArg Engine.passes same.engine), lowers.frame.trim.trans same.trim,
    lowers.frame.cycle.trans same.cycle, ?_, lowers.sweeps.trans (sweeps_congr (congrArg Motion.queue same.motion)),
    fun k settled => (lowers.records k settled).trans (h.record k), handOnConfigure_disables u b enabled off ▸ h.handed⟩
  rw [← same.motion]
  exact lowers.motion

section
variable {s c t : State} {u : TowerIdx} (h : TowerDisabled s c t u)
include h

theorem TowerDisabled.targetOf (v : TowerIdx) (z : ZoneIdx) : t.targetOf v z = if v = u then none else c.targetOf v z := by
  rw [targetOf_congr h.left.engine, (dispatchScan_scanned _).targetOf, targetOf_congr (evalRestricted_frame _).engine,
    disableTower_targetOf]

theorem TowerDisabled.started (v : TowerIdx) (z : ZoneIdx) : StartedOrSame (disableTower u c) t v z :=
  ((dispatchScan_scanned _).zones v z).congr (evalRestricted_sameAt _ v z).zone.symm (evalRestricted_sameAt _ v z).target.symm
    (zone_congr h.left.motion v z)

theorem TowerDisabled.own (z : ZoneIdx) : t.zone u z = { c.zone u z with state := (c.zone u z).state.withoutTarget } := by
  rw [(h.started u z).of_none (by rw [disableTower_targetOf, if_pos rfl]), disableTower_zone, if_pos rfl]

theorem TowerDisabled.other {v : TowerIdx} (other : v ≠ u) {z : ZoneIdx} (same : SameAt s c v z) :
    t.targetOf v z = s.targetOf v z ∧ StartedOrSame s t v z := by
  refine ⟨by rw [h.targetOf, if_neg other, same.target], (h.started v z).congr ?_ ?_ rfl⟩
  · rw [disableTower_zone, if_neg other.symm, same.zone]
  · rw [disableTower_targetOf, if_neg other, same.target]

theorem TowerDisabled.pass (v : TowerIdx) : t.pass v
    = if u = v then { s.pass u with state := .none, rerun := false, sweep := none } else s.pass v := by
  have pass (x) : c.pass x = s.pass x := congrArg (look · x) h.engine
  rw [← pass, ← pass, State.pass, h.left.engine, (dispatchScan_scanned _).frame.engine, (evalRestricted_frame _).engine]
  exact disableTower_pass u c v

theorem TowerDisabled.trimOf (z : ZoneIdx) : t.trimOf u z = ⟨0, 0, 0, (s.trimOf u z).lastAverage⟩ := by
  have zeroed : (evalRestricted (disableTower u c)).trimOf u z = ⟨0, 0, 0, (s.trimOf u z).lastAverage⟩ := by
    rw [trimOf_congr (evalRestricted_frame _).trim, disableTower_trimOf, if_pos rfl, trimOf_congr h.trim]
    rfl
  rw [trimOf_congr h.left.trim, (dispatchScan_scanned _).averaging u z (by rw [zeroed]; rfl), zeroed]

theorem TowerDisabled.trims {v : TowerIdx} (other : v ≠ u) (z : ZoneIdx) :
    (t.trimOf v z).trim = (s.trimOf v z).trim ∧ (t.trimOf v z).lastAverage = (s.trimOf v z).lastAverage := by
  have kept := (dispatchScan_scanned (evalRestricted (disableTower u c))).trims v z
  rw [trimOf_congr (evalRestricted_frame _).trim, disableTower_trimOf, if_neg other, trimOf_congr h.trim] at kept
  rwa [trimOf_congr h.left.trim]

theorem TowerDisabled.trimUnit : t.trim.saturated = put s.trim.saturated u false ∧ t.trim.armed = s.trim.armed := by
  rw [h.left.trim, (dispatchScan_scanned _).trim, (evalRestricted_frame _).trim, disableTower_trim, ← h.trim]
  exact ⟨rfl, rfl⟩

theorem TowerDisabled.sweepEntries : t.sweeps = s.sweeps := by
  rw [sweeps_congr (congrArg Motion.queue h.left.motion), (dispatchScan_scanned _).sweeps, evalRestricted_sweeps,
    disableTower_sweeps, h.sweeps]

theorem TowerDisabled.watch : look t.motion.watch u = false := by
  rw [h.left.motion, (dispatchScan_scanned _).watch, evalRestricted_watch, disableTower_watch]

theorem TowerDisabled.limits : SameLimits s t := by
  unfold SameLimits
  rw [h.left.motion, (dispatchScan_scanned _).motion, evalRestricted_motion, disableTower_motion, withdrawn_motion, h.motion]
  exact ⟨rfl, rfl, rfl⟩

theorem TowerDisabled.cycleUnit : t.cycle = { s.cycle with hold := put s.cycle.hold u false } := by
  rw [h.left.cycle, (dispatchScan_scanned _).frame.cycle, (evalRestricted_frame _).cycle, disableTower_cycle, h.cycle]

theorem TowerDisabled.notices {k : Fin 8} (restricted : k ≠ 2) : look t.notice.records k
    = if k = 1 ∧ look s.cycle.hold u = true ∧ ∀ v, v ≠ u → look s.cycle.hold v = false
      then some (mergeNotice (look s.notice.records 1) none .absent s.cycle.sheetCount) else look c.notice.records k := by
  rw [h.left.notice, (dispatchScan_scanned _).notice, evalRestricted_records _ restricted, disableTower_records, h.cycle,
    h.records 1 (by decide)]

/-- Restricted Motion is re-evaluated over the towers enabled where the jobs of `c` are in force (R82). -/
theorem TowerDisabled.reevaluated {enabled : TowerIdx → Bool} (inForce : ∀ v, (c.tower v).enabled = enabled v) :
    Reevaluated s t enabled := by
  obtain ⟨cap, concurrency, restricted⟩ := disableTower_limits u c
  rw [h.motion] at cap concurrency restricted
  refine evalRestricted_reevaluated (c := disableTower u c) cap concurrency restricted ?_ ?_ (fun v => ?_) ?_ ?_
  · rw [disableTower_records, if_neg (by simp), h.records 2 (by decide)]
  · rw [disableTower_cycle, h.cycle]
  · rw [tower_congr (disableTower_frame u c).jobs, inForce]
  · rw [h.left.motion, (dispatchScan_scanned _).motion]
  · rw [h.left.notice, (dispatchScan_scanned _).notice]

end

end Sys2Proof.Machine
end

section
/-! PROOF. A Configure Tower that disables an enabled tower of the running job (R24). -/

set_option Elab.async false

namespace Sys2Proof.Machine

/-- Settles O24: the clamp, the tower disabled, Restricted Motion and the scan, on the record written. -/
theorem disablingARunningTowerClearsIt : Obligations.DisablingARunningTowerClearsIt := by
  unfold Obligations.DisablingARunningTowerClearsIt
  intro s f rest j u waits length ok slot tower off running enabled old new lastHeld
  have offIs : new.enabled = false := by
    change (u8 f.payload 2 == 1) = false
    rw [off]
    rfl
  have enabledIs : old.enabled = true := (congrArg TowerSettings.enabled (tower_of_runningSlot running u)).symm.trans enabled
  obtain ⟨answered, frame, written, b, h, -⟩ := takeRequest_configured waits length ok slot tower running
    (handOnConfigure_frame u old new)
  refine ⟨takeRequest .configureTower configureTower s, rfl, answered, frame.mono (by decide), written, ?_⟩
  generalize takeRequest .configureTower configureTower s = t at h
  have disabled := h.disabled enabledIs offIs
  have other {v} (apart : v ≠ u) (z) := disabled.other apart ((h.stands v z).trans (lowered_other b u old new apart z))
  refine ⟨fun z => ?_, fun v z apart => (other apart z).1, fun z => ?_, fun v z apart => (other apart z).2, ?_, fun v apart => ?_,
    disabled.trimOf, fun v z apart => disabled.trims apart z, disabled.trimUnit.1, disabled.trimUnit.2, disabled.sweepEntries,
    disabled.watch, disabled.limits, disabled.cycleUnit, fun last => ?_, fun still => ?_, disabled.reevaluated fun v => ?_,
    fun raised => ?_, fun k done restricts settled => ?_, h.exhausted⟩
  · rw [disabled.targetOf, if_pos rfl]
  · rw [disabled.own, ((h.clamps z).trans (lowered_own b u old new z)).zone]
    generalize ((s.setJobs t.jobs).afterClamp u z old.keyMax new.keyMax).zone u z = w
    obtain ⟨state, actual, commanded, tag, timer, settleUntil⟩ := w
    cases state <;> rfl
  · rw [disabled.pass, if_pos rfl]
  · rw [disabled.pass, if_neg apart.symm]
  · rw [disabled.notices (by decide), if_pos ⟨rfl, last⟩]
  · rw [disabled.notices (by decide), if_neg fun all => still all.2, disabled.records 1 (by decide)]
  · rw [tower_congr (lowered_handing b u old new).frame.jobs, h.inForce]
    by_cases here : u = v
    · rw [if_pos here, offIs, decide_eq_false (not_not.2 here.symm), Bool.false_and]
    · rw [if_neg here, decide_eq_true (Ne.symm here), Bool.true_and]
  · rw [disabled.notices (by decide), if_neg (by simp), lowered_kept b u old new raised, h.record]
  · rw [disabled.notices restricts, if_neg fun all => done all.1, disabled.records k settled]

end Sys2Proof.Machine
end

section
/-! SUPPORT. The Settle Watch tests of a changeover (R96, R128): a tower raises SETTLED at most once, and when it does. -/

set_option Elab.async false

namespace Sys2Proof.Machine

/-! ### Steps that test one Settle Watch -/

/-- From `s` to `t` the Settle Watch of one tower has been tested, and it has been cleared with SETTLED raised at most once. -/
structure SettledOnce (u : TowerIdx) (s t : State) : Prop where
  cycle : t.cycle = s.cycle
  cases : (t.motion.watch = s.motion.watch ∧ look t.notice.records 7 = look s.notice.records 7)
    ∨ (look s.motion.watch u = true ∧ t.motion.watch = put s.motion.watch u false ∧ look t.notice.records 7
      = some (mergeNotice (look s.notice.records 7) (some u) (.tower u) s.cycle.sheetCount))

namespace SettledOnce

variable {u : TowerIdx} {s t r : State}

theorem refl (u : TowerIdx) (s : State) : SettledOnce u s s := ⟨rfl, .inl ⟨rfl, rfl⟩⟩

theorem trans (h : SettledOnce u s t) (h' : SettledOnce u t r) : SettledOnce u s r := by
  refine ⟨h'.cycle.trans h.cycle, ?_⟩
  obtain ⟨watch, record⟩ | ⟨set, watch, record⟩ := h.cases
  · have later := h'.cases
    rwa [watch, record, h.cycle] at later
  · obtain ⟨watch', record'⟩ | ⟨set', -⟩ := h'.cases
    · exact .inr ⟨set, watch'.trans watch, record'.trans record⟩
    · rw [watch, look_put, if_pos rfl] at set'
      cases set'

theorem foldl {ι : Type} {f : ι → State → State} (h : ∀ i s, SettledOnce u s (f i s)) (l : List ι) (s : State) :
    SettledOnce u s (l.foldl (fun s i => f i s) s) := by
  induction l generalizing s with
  | nil => exact .refl u s
  | cons i l ih => exact (h i s).trans (ih (f i s))

theorem of_settleTested (tested : SettleTested s t u) (cycle : t.cycle = s.cycle) : SettledOnce u s t := by
  refine ⟨cycle, ?_⟩
  by_cases settled : look s.motion.watch u = true
      ∧ ∀ z, (t.zone u z).state = .noTarget ∨ (t.zone u z).state = .atTarget ∨ (t.zone u z).state = .faulted
  · exact .inr ⟨settled.1, tested.1 settled⟩
  · exact .inl (tested.2 settled)

theorem ite {c : Prop} [Decidable c] (h : SettledOnce u s t) (h' : SettledOnce u s r) : SettledOnce u s (if c then t else r) := by
  split
  · exact h
  · exact h'

/-- No other tower's watch is touched. -/
theorem other (h : SettledOnce u s t) {v : TowerIdx} (apart : u ≠ v) : look t.motion.watch v = look s.motion.watch v := by
  obtain ⟨watch, -⟩ | ⟨-, watch, -⟩ := h.cases
  · rw [watch]
  · rw [watch, look_put, if_neg apart]

end SettledOnce

theorem withdrawTarget_settledOnce (u : TowerIdx) (z : ZoneIdx) (s : State) : SettledOnce u s (withdrawTarget u z s) := by
  by_cases same : (s.zone u z).state = (s.zone u z).state.withoutTarget
  · rw [withdrawTarget, setMotionState_same same]
    exact .refl u s
  · exact .of_settleTested (setMotionState_settleTested same) (withdrawTarget_handing u z s).frame.cycle

theorem handTarget_settledOnce (u : TowerIdx) (z : ZoneIdx) (k : Nat) (s : State) : SettledOnce u s (handTarget u z k s) := by
  have cycle := (handTarget_handing u z k s).frame.cycle
  by_cases same : ((handTarget u z k s).zone u z).state = (s.zone u z).state
  · obtain ⟨watch, notice⟩ := handTarget_kept_state same
    exact ⟨cycle, .inl ⟨watch, by rw [notice]⟩⟩
  · exact .of_settleTested (handTarget_settleTested same) cycle

theorem clampTarget_settledOnce (u : TowerIdx) (keyMax : Nat) (z : ZoneIdx) (s : State) :
    SettledOnce u s (clampTarget u keyMax z s) := by
  unfold clampTarget
  split
  · exact .refl u s
  · next g target =>
    have handed := handTarget_settledOnce u z keyMax (s.putTarget u z (some { g with k := keyMax }))
    exact .ite ⟨handed.cycle, handed.cases⟩ (.refl u s)

theorem withdrawTargets_settledOnce (u : TowerIdx) (zs : List ZoneIdx) (s : State) : SettledOnce u s (withdrawTargets u zs s) :=
  .foldl (withdrawTarget_settledOnce u) zs s

theorem clampTargets_settledOnce (u : TowerIdx) (keyMax : Nat) (s : State) : SettledOnce u s (clampTargets u keyMax s) := by
  unfold clampTargets
  generalize allZones = zs
  exact .foldl (clampTarget_settledOnce u keyMax) zs s

theorem changeoverTower_settledOnce (u : TowerIdx) (s : State) : SettledOnce u s (changeoverTower u s) := by
  unfold changeoverTower
  exact (withdrawTargets_settledOnce u _ s).trans (clampTargets_settledOnce u _ _)

/-! ### When a tower comes to rest as its zones lose their Key Targets -/

theorem MotionState.withoutTarget_settled {m : MotionState} :
    m.withoutTarget.unsettled = false ↔ m.unsettled = false ∨ m = .pending := by
  cases m <;> simp [MotionState.withoutTarget, MotionState.unsettled]

theorem MotionState.withoutTarget_changes {m : MotionState} : m ≠ m.withoutTarget ↔ m = .atTarget ∨ m = .pending := by
  cases m <;> simp [MotionState.withoutTarget]

theorem MotionState.withoutTarget_ne {m : MotionState} : m.withoutTarget ≠ .atTarget ∧ m.withoutTarget ≠ .pending := by
  cases m <;> simp [MotionState.withoutTarget]

/-- Withdrawing the Key Targets of the zones `zs` brings the tower to rest: one of them changes its state, and every zone is
then in no state of waiting or motion. -/
def ComesToRest (s : State) (u : TowerIdx) (p : ZoneIdx → Prop) : Prop :=
  (∃ z, p z ∧ ((s.zone u z).state = .atTarget ∨ (s.zone u z).state = .pending))
    ∧ ∀ z, (s.zone u z).state.unsettled = false ∨ (p z ∧ (s.zone u z).state = .pending)

/-- The zones and the watch of a tower after one of its zones is told that it has no Key Target. -/
theorem withdrawTarget_state (u : TowerIdx) (z : ZoneIdx) (s : State) (x : ZoneIdx) : ((withdrawTarget u z s).zone u x).state
    = if z = x then (s.zone u x).state.withoutTarget else (s.zone u x).state := by
  rw [withdrawTarget_zone]
  by_cases here : z = x
  · rw [if_pos ⟨rfl, here⟩, if_pos here, here]
  · rw [if_neg fun both => here both.2, if_neg here]

/-- A watch is cleared where its tower comes to rest. -/
theorem withdrawTarget_clears {u : TowerIdx} {z : ZoneIdx} {s : State} (set : look s.motion.watch u = true) :
    look (withdrawTarget u z s).motion.watch u = false ↔ ((s.zone u z).state = .atTarget ∨ (s.zone u z).state = .pending)
      ∧ ∀ x, ((withdrawTarget u z s).zone u x).state.unsettled = false := by
  by_cases same : (s.zone u z).state = (s.zone u z).state.withoutTarget
  · have kept : withdrawTarget u z s = s := by rw [withdrawTarget, setMotionState_same same]
    rw [kept, set]
    exact ⟨nofun, fun both => absurd same (MotionState.withoutTarget_changes.2 both.1)⟩
  · have tested : SettleTested s (withdrawTarget u z s) u := setMotionState_settleTested same
    simp only [MotionState.unsettled_eq_false]
    constructor
    · intro cleared
      refine ⟨MotionState.withoutTarget_changes.1 same, ?_⟩
      by_contra unsettled
      have kept := (tested.2 fun both => unsettled both.2).1
      rw [kept, set] at cleared
      cases cleared
    · intro rest
      rw [(tested.1 ⟨set, rest.2⟩).1, look_put, if_pos rfl]

/-- A set watch is cleared by the withdrawal of the Key Targets of these zones exactly where it brings the tower to rest. -/
theorem withdrawTargets_clears {u : TowerIdx} (zs : List ZoneIdx) {s : State} (set : look s.motion.watch u = true) :
    look (withdrawTargets u zs s).motion.watch u = false ↔ ComesToRest s u (· ∈ zs) := by
  induction zs generalizing s with
  | nil =>
    change look s.motion.watch u = false ↔ _
    rw [set]
    exact ⟨nofun, fun rest => absurd rest.1 (by simp)⟩
  | cons z zs ih =>
    change look (withdrawTargets u zs (withdrawTarget u z s)).motion.watch u = false ↔ _
    have states := withdrawTarget_state u z s
    have clears := withdrawTarget_clears (z := z) set
    generalize withdrawTarget u z s = w at *
    by_cases first : look w.motion.watch u = false
    · have later : look (withdrawTargets u zs w).motion.watch u = false := by
        rw [Bool.eq_false_iff] at first ⊢
        exact mt ((withdrawTargets_handing u zs w).watch u) first
      obtain ⟨changes, rest⟩ := clears.1 first
      refine iff_of_true later ⟨⟨z, List.mem_cons_self, changes⟩, fun x => ?_⟩
      have still := rest x
      rw [states] at still
      split at still
      · next here =>
        obtain rfl := here
        exact (MotionState.withoutTarget_settled.1 still).imp id fun pending => ⟨List.mem_cons_self, pending⟩
      · exact .inl still
    · rw [ih (by simpa using first)]
      have elsewhere {x} (other : z ≠ x) : (w.zone u x).state = (s.zone u x).state := by rw [states, if_neg other]
      have here : (w.zone u z).state = (s.zone u z).state.withoutTarget := by rw [states, if_pos rfl]
      constructor
      · rintro ⟨⟨y, member, changes⟩, rest⟩
        have moved : z ≠ y := by
          rintro rfl
          rw [here] at changes
          exact changes.elim MotionState.withoutTarget_ne.1 MotionState.withoutTarget_ne.2
        refine ⟨⟨y, List.mem_cons_of_mem z member, elsewhere moved ▸ changes⟩, fun x => ?_⟩
        by_cases same : z = x
        · obtain rfl := same
          have still := (rest z).resolve_right fun both => MotionState.withoutTarget_ne.2 (here.symm.trans both.2)
          rw [here] at still
          exact (MotionState.withoutTarget_settled.1 still).imp id fun pending => ⟨List.mem_cons_self, pending⟩
        · rw [← elsewhere same]
          exact (rest x).imp id fun both => ⟨List.mem_cons_of_mem z both.1, both.2⟩
      · rintro ⟨⟨y, member, changes⟩, rest⟩
        have after : ∀ x, (w.zone u x).state.unsettled = false ∨ (x ∈ zs ∧ (w.zone u x).state = .pending) := fun x => by
          by_cases same : z = x
          · obtain rfl := same
            rw [here]
            exact .inl (MotionState.withoutTarget_settled.2 ((rest z).imp id And.right))
          · rw [elsewhere same]
            exact (rest x).imp id fun both => ⟨(List.mem_cons.1 both.1).resolve_left (Ne.symm same), both.2⟩
        refine ⟨by_contra fun unchanged => first (clears.2 ⟨?_, fun x => ?_⟩), after⟩
        · by_cases same : z = y
          · exact same ▸ changes
          · exact absurd ⟨y, (List.mem_cons.1 member).resolve_left (Ne.symm same), (elsewhere same).symm ▸ changes⟩ unchanged
        · exact (after x).resolve_right fun both => unchanged ⟨x, both.1, .inr both.2⟩

/-! ### The towers of a changeover -/

/-- The tower's set watch is cleared as its zones without a place lose their Key Targets. -/
def TowerSettles (s : State) (u : TowerIdx) : Prop :=
  look s.motion.watch u = true ∧ ComesToRest s u fun z => (s.tower u).covers z = false

/-- No Key Target of the tower lies above the key maximum in force. -/
def TargetsFit (s : State) (u : TowerIdx) : Prop := ∀ z g, s.targetOf u z = some g → g.k ≤ (s.tower u).keyMax

theorem clampTarget_fits {u : TowerIdx} {keyMax : Nat} {z : ZoneIdx} {s : State} (fits : ∀ g, s.targetOf u z = some g → g.k ≤ keyMax) :
    clampTarget u keyMax z s = s := by
  unfold clampTarget
  split
  · rfl
  · next g target => exact if_neg (Nat.not_lt.2 (fits g target))

theorem clampTargets_fits {u : TowerIdx} {keyMax : Nat} {s : State} (fits : ∀ z g, s.targetOf u z = some g → g.k ≤ keyMax) :
    clampTargets u keyMax s = s := by
  unfold clampTargets
  induction allZones with
  | nil => rfl
  | cons z zs ih => rw [List.foldl_cons, clampTarget_fits (fits z), ih]

section
variable {u : TowerIdx} {s : State}

theorem withdrawUncovered_clears (set : look s.motion.watch u = true) :
    look (withdrawTargets u (allZones.filter fun z => !(s.tower u).covers z) s).motion.watch u = false ↔ TowerSettles s u := by
  have members : (· ∈ allZones.filter fun z => !(s.tower u).covers z) = fun z => (s.tower u).covers z = false := by
    funext z
    simp
  rw [withdrawTargets_clears _ set, members]
  exact ⟨fun rest => ⟨set, rest⟩, And.right⟩

theorem changeoverTower_clears (settles : TowerSettles s u) : look (changeoverTower u s).motion.watch u = false := by
  have cleared := (withdrawUncovered_clears settles.1).2 settles
  unfold changeoverTower
  rw [Bool.eq_false_iff] at cleared ⊢
  exact mt ((clampTargets_handing u _ _).watch u) cleared

theorem changeoverTower_settles (set : look s.motion.watch u = true) (fits : TargetsFit s u)
    (cleared : look (changeoverTower u s).motion.watch u = false) : TowerSettles s u := by
  unfold changeoverTower at cleared
  rw [clampTargets_fits fun z g target => ?_] at cleared
  · exact (withdrawUncovered_clears set).1 cleared
  · rw [targetOf_congr (withdrawTargets_frame u _ s).engine] at target
    exact fits z g target

end

section
variable {u v : TowerIdx} (apart : u ≠ v) (s : State)
include apart

/-- The part of one tower leaves what that of another reads. -/
theorem changeoverTower_apart : (changeoverTower u s).tower v = s.tower v
    ∧ look (changeoverTower u s).motion.watch v = look s.motion.watch v
    ∧ ∀ z, SameAt s (changeoverTower u s) v z :=
  ⟨tower_congr (changeoverTower_handing u s).frame.jobs v, (changeoverTower_settledOnce u s).other apart,
    fun z => (changeoverTower_locally u).outside s v z apart⟩

theorem towerSettles_apart : TowerSettles (changeoverTower u s) v ↔ TowerSettles s v := by
  obtain ⟨tower, watch, same⟩ := changeoverTower_apart apart s
  simp only [TowerSettles, ComesToRest, tower, watch, (same _).zone]

theorem targetsFit_apart : TargetsFit (changeoverTower u s) v ↔ TargetsFit s v := by
  obtain ⟨tower, -, same⟩ := changeoverTower_apart apart s
  simp only [TargetsFit, tower, (same _).target]

end

/-- SETTLED raised for these towers, one after the other, with the Sheet Count `n`. -/
def settledBy (n : Nat) (us : List TowerIdx) (r : Option NoticeRecord) : Option NoticeRecord :=
  us.foldl (fun r u => some (mergeNotice r (some u) (.tower u) n)) r

/-- The towers that raise SETTLED in the towers' parts of a changeover. -/
theorem changeoverTowers_settled {l : List TowerIdx} (once : l.Nodup) (s : State) :
    ∃ us : List TowerIdx, us.Sublist l ∧ (∀ u ∈ l, TowerSettles s u → u ∈ us) ∧ (∀ u ∈ us, look s.motion.watch u = true)
      ∧ (∀ u ∈ us, TargetsFit s u → TowerSettles s u)
      ∧ look (l.foldl (fun s t => changeoverTower t s) s).notice.records 7
        = settledBy s.cycle.sheetCount us (look s.notice.records 7) := by
  induction l generalizing s with
  | nil => exact ⟨[], .slnil, nofun, nofun, nofun, rfl⟩
  | cons u l ih =>
    obtain ⟨fresh, once⟩ := List.nodup_cons.1 once
    obtain ⟨us, sub, all, set, fit, record⟩ := ih once (changeoverTower u s)
    have apart {v} (member : v ∈ us) : u ≠ v := fun same => fresh (same ▸ sub.subset member)
    have tested := changeoverTower_settledOnce u s
    rw [List.foldl_cons]
    rw [tested.cycle] at record
    have all' : ∀ v ∈ l, TowerSettles s v → v ∈ us := fun v member settles =>
      have other : u ≠ v := fun same => fresh (same ▸ member)
      all v member ((towerSettles_apart other s).2 settles)
    have set' : ∀ v ∈ us, look s.motion.watch v = true := fun v member => by
      rw [← (changeoverTower_apart (apart member) s).2.1]
      exact set v member
    have fit' : ∀ v ∈ us, TargetsFit s v → TowerSettles s v := fun v member fits =>
      (towerSettles_apart (apart member) s).1 (fit v member ((targetsFit_apart (apart member) s).2 fits))
    obtain ⟨watch, same⟩ | ⟨watched, watch, raised⟩ := tested.cases
    · refine ⟨us, sub.cons u, fun v member settles => ?_, set', fit', by rw [record, same]⟩
      obtain rfl | later := List.mem_cons.1 member
      · have cleared := changeoverTower_clears settles
        rw [watch, settles.1] at cleared
        cases cleared
      · exact all' v later settles
    · refine ⟨u :: us, sub.cons_cons u, fun v member settles => ?_, fun v member => ?_, fun v member fits => ?_, by rw [record, raised]; rfl⟩
      · obtain rfl | later := List.mem_cons.1 member
        · exact List.mem_cons_self
        · exact List.mem_cons_of_mem u (all' v later settles)
      · obtain rfl | later := List.mem_cons.1 member
        · exact watched
        · exact set' v later
      · obtain rfl | later := List.mem_cons.1 member
        · exact changeoverTower_settles watched fits (by rw [watch, look_put, if_pos rfl])
        · exact fit' v later fits

end Sys2Proof.Machine
end

section
/-! SUPPORT. What the taking of a changeover leaves, block by block (R66, R117, R128). -/

set_option Elab.async false

namespace Sys2Proof.Machine

theorem TowerSettings.covers_eq_true {r : TowerSettings} {z : ZoneIdx} :
    r.covers z = true ↔ r.enabled = true ∧ ∃ m, r.zoneMap = some m ∧ z.val < m.zones := by
  unfold TowerSettings.covers
  cases r.zoneMap with
  | none => simp
  | some m => simp

/-! ### The zones (R66) -/

/-- The Zone Engine with its passes abandoned and the Key Targets of zones without a place dropped. -/
def State.dropped (s : State) : State := dropTargets (fun t z => !(s.passesAbandoned.tower t).covers z) s.passesAbandoned

/-- The zones of a tower after those without a place have been told so. -/
def State.uncovered (s : State) (u : TowerIdx) : State :=
  withdrawTargets u (allZones.filter fun z => !(s.tower u).covers z) s.dropped

section
variable (s : State) (u : TowerIdx) (z : ZoneIdx)

theorem dropped_frame : OnlyChanges [.engine] s s.dropped := (setEngine_frame s _).trans (dropTargets_frame _ _)

theorem dropped_targetOf : s.dropped.targetOf u z = if (s.tower u).covers z then s.targetOf u z else none := by
  have tower : s.passesAbandoned.tower u = s.tower u := tower_congr (setEngine_frame s _).jobs u
  rw [State.dropped, dropTargets_targetOf, tower]
  cases (s.tower u).covers z with
  | true => rfl
  | false => rfl

/-- Each zone is left as the clamp of its Key Target leaves it, after the zones without a place. -/
theorem changeoverTargets_sameAt : SameAt (clampTarget u (s.tower u).keyMax z (s.uncovered u)) (changeoverTargets s) u z := by
  have tower : s.dropped.tower u = s.tower u := tower_congr (dropped_frame s).jobs u
  have part : changeoverTower u s.dropped = clampTargets u (s.tower u).keyMax (s.uncovered u) := by
    rw [changeoverTower, tower]
    rfl
  have clamped : SameAt (clampTarget u (s.tower u).keyMax z (s.uncovered u)) (changeoverTower u s.dropped) u z := by
    rw [part]
    exact (Locally.foldl_zones (clampTarget_locally u _) allZones_nodup (s.uncovered u)).2 z (mem_allZones z)
  rw [changeoverTargets_eq]
  exact clamped.trans (changeoverTowers_sameAt s.dropped u z)

theorem uncovered_covered (place : (s.tower u).covers z = true) : SameAt s (s.uncovered u) u z := by
  have dropped : SameAt s s.dropped u z := by
    refine ⟨zone_congr (dropped_frame s).motion u z, ?_, moves_congr (congrArg Motion.queue (dropped_frame s).motion) u z⟩
    rw [dropped_targetOf, if_pos place]
  refine dropped.trans ((Locally.foldl_zones (withdrawTarget_locally u) (allZones_nodup.filter _) s.dropped).1 u z (.inr ?_))
  simp [place]

theorem uncovered_frame : OnlyChanges [.engine, .motion, .notice] s (s.uncovered u) :=
  ((dropped_frame s).mono (by decide)).trans ((withdrawTargets_frame u _ s.dropped).mono (by decide))

theorem uncovered_targetOf : (s.uncovered u).targetOf u z = if (s.tower u).covers z then s.targetOf u z else none := by
  rw [← dropped_targetOf]
  exact targetOf_congr (withdrawTargets_frame u _ s.dropped).engine u z

/-- A zone with a place keeps a Key Target within the new key maximum. -/
theorem changeoverTargets_kept_target (place : (s.tower u).covers z = true)
    (fits : ∀ g, s.targetOf u z = some g → g.k ≤ (s.tower u).keyMax) : SameAt s (changeoverTargets s) u z := by
  have same := changeoverTargets_sameAt s u z
  rw [clampTarget_fits fun g target => fits g ((uncovered_covered s u z place).target.symm.trans target)] at same
  exact (uncovered_covered s u z place).trans same

/-- A zone with a place has a Key Target above the new key maximum rewritten and handed on. -/
theorem changeoverTargets_clamped {g : Target} (place : (s.tower u).covers z = true) (target : s.targetOf u z = some g)
    (beyond : (s.tower u).keyMax < g.k) :
    SameAt (rewriteTarget u z g (s.tower u).keyMax (s.uncovered u)) (changeoverTargets s) u z := by
  have same := changeoverTargets_sameAt s u z
  have clamps : clampTarget u (s.tower u).keyMax z (s.uncovered u) = rewriteTarget u z g (s.tower u).keyMax (s.uncovered u) := by
    unfold clampTarget
    rw [(uncovered_covered s u z place).target.trans target]
    exact if_pos beyond
  rwa [clamps] at same

/-- That hand-on, as it is in another state in which the zone stands so, under the settings and the Press Phase of `s`. -/
theorem changeoverTargets_rewritten {r : State} {jobs : Vector JobSlot 2} {g : Target} (place : (s.tower u).covers z = true)
    (target : s.targetOf u z = some g) (beyond : (s.tower u).keyMax < g.k) (same : jobs = s.jobs)
    (phase : r.cycle.phase = s.cycle.phase) (stands : SameAt r s u z) :
    (changeoverTargets s).zone u z = (rewriteTarget u z g (s.tower u).keyMax (r.setJobs jobs)).zone u z
      ∧ (changeoverTargets s).targetOf u z = some { g with k := (s.tower u).keyMax } := by
  have clamped := changeoverTargets_clamped s u z place target beyond
  have frame := uncovered_frame s u
  have before : SameAt (r.setJobs jobs) (s.uncovered u) u z :=
    SameAt.trans ⟨stands.zone, stands.target, stands.moves⟩ (uncovered_covered s u z place)
  generalize (s.tower u).keyMax = k at *
  generalize s.uncovered u = w at *
  refine ⟨clamped.zone.trans (rewriteTarget_zone_congr (frame.jobs.trans same.symm) ?_ before g k), ?_⟩
  · rw [frame.cycle, setJobs_cycle, phase]
  · rw [clamped.target, rewriteTarget_targetOf, if_pos ⟨rfl, rfl⟩]

/-- A zone without a place loses E, B and K and is told so. -/
theorem changeoverTargets_withdrawn (placeless : (s.tower u).covers z = false) :
    (changeoverTargets s).targetOf u z = none
      ∧ (changeoverTargets s).zone u z = { s.zone u z with state := (s.zone u z).state.withoutTarget } := by
  have same := changeoverTargets_sameAt s u z
  have none : (s.uncovered u).targetOf u z = none := by rw [uncovered_targetOf, if_neg (by rw [placeless]; decide)]
  rw [clampTarget_fits fun g target => by rw [none] at target; cases target] at same
  refine ⟨same.target.trans none, same.zone.trans ?_⟩
  rw [State.uncovered, withdrawTargets_zone, if_pos ⟨rfl, by simp [placeless]⟩, zone_congr (dropped_frame s).motion]

/-- The hand-ons of a changeover, after the passes are abandoned and Key Targets dropped. -/
theorem changeoverTargets_handing : Handing s.dropped (changeoverTargets s) := by
  rw [changeoverTargets_eq]
  exact changeoverTowers_handing s.dropped

end

/-! ### The passes (R66) -/

theorem beginPasses_pass (s : State) (v : TowerIdx) : (beginPasses s).pass v
    = if (s.tower v).enabled then (s.pass v).caused (look s.running.ready v) (s.tower v).mean? else s.pass v := by
  have fold : ∀ (l : List TowerIdx), l.Nodup → ∀ w : State, w.jobs = s.jobs →
      (l.foldl (fun s t => if (s.tower t).enabled then passCause t s else s) w).pass v
        = if v ∈ l ∧ (s.tower v).enabled = true then (w.pass v).caused (look s.running.ready v) (s.tower v).mean? else w.pass v := by
    intro l
    induction l with
    | nil => exact fun _ w _ => (if_neg fun both => List.not_mem_nil both.1).symm
    | cons u l ih =>
      intro once w jobs
      obtain ⟨fresh, once⟩ := List.nodup_cons.1 once
      rw [List.foldl_cons, tower_congr jobs]
      by_cases enabled : (s.tower u).enabled = true
      · rw [if_pos enabled, ih once (passCause u w) ((passCause_frame u w).jobs.trans jobs), passCause_pass, running_congr jobs,
          tower_congr jobs]
        by_cases here : u = v
        · subst here
          rw [if_neg fun both => fresh both.1, if_pos rfl, if_pos ⟨List.mem_cons_self, enabled⟩]
        · simp only [if_neg here, List.mem_cons, Ne.symm here, false_or]
      · rw [if_neg enabled, ih once w jobs]
        by_cases here : u = v
        · subst here
          rw [if_neg fun both => enabled both.2, if_neg fun both => enabled both.2]
        · simp only [List.mem_cons, Ne.symm here, false_or]
  have whole := fold allTowers allTowers_nodup s rfl
  simpa [beginPasses, mem_allTowers] using whole

/-! ### The blocks after the exchange of the jobs (R128, steps 3 to 6) -/

theorem clearWatches_motion (p : TowerIdx → Bool) (s : State) :
    (clearWatches p s).motion = { s.motion with watch := tab fun t => look s.motion.watch t && !p t } := rfl

theorem clearWatches_zone (p : TowerIdx → Bool) (s : State) (u : TowerIdx) (z : ZoneIdx) :
    (clearWatches p s).zone u z = s.zone u z := rfl

theorem clearWatches_sweeps (p : TowerIdx → Bool) (s : State) : (clearWatches p s).sweeps = s.sweeps := rfl

theorem cleared_motion (p : TowerIdx → Bool) {s d w : State} (handed : Handing d w) (same : d.motion = s.motion) :
    (clearWatches p w).motion = { s.motion with
      zones := (clearWatches p w).motion.zones, queue := (clearWatches p w).motion.queue
      watch := (clearWatches p w).motion.watch } := by
  rw [clearWatches_motion, handed.motion, same]

/-- The Motion Scheduler after step 4 of R128, but for Restricted Motion. -/
def State.rested (s : State) : State := clearWatches (fun _ => true) (changeoverTargets s)

/-- The state that the Dispatch Scan of a changeover finds. -/
def State.beforeScan (s : State) (carry : Bool) : State := beginPasses (changeoverTrim carry (evalRestricted s.rested))

section
variable (s : State) (carry : Bool)

theorem rested_frame : OnlyChanges [.engine, .motion, .notice] s s.rested :=
  ((changeoverTargets_frame s).mono (by decide)).trans ((clearWatches_frame _ _).mono (by decide))

theorem beforeScan_motion : (s.beforeScan carry).motion = (evalRestricted s.rested).motion :=
  (beginPasses_frame _).motion.trans (changeoverTrim_frame _ _).motion

theorem beforeScan_notice : (s.beforeScan carry).notice = (evalRestricted s.rested).notice :=
  (beginPasses_frame _).notice.trans (changeoverTrim_frame _ _).notice

theorem beforeScan_zone (u : TowerIdx) (z : ZoneIdx) : (s.beforeScan carry).zone u z = (changeoverTargets s).zone u z := by
  rw [zone_congr (beforeScan_motion s carry), (evalRestricted_sameAt _ u z).zone, State.rested, clearWatches_zone]

theorem beforeScan_targetOf (u : TowerIdx) (z : ZoneIdx) :
    (s.beforeScan carry).targetOf u z = (changeoverTargets s).targetOf u z := by
  rw [State.beforeScan, targetOf_of_targets (beginPasses_targets _), targetOf_congr (changeoverTrim_frame _ _).engine,
    targetOf_congr (evalRestricted_frame _).engine, State.rested, targetOf_congr (clearWatches_frame _ _).engine]

theorem beforeScan_pass (v : TowerIdx) : (s.beforeScan carry).pass v
    = if (s.tower v).enabled then (s.pass v).abandon.caused (look s.running.ready v) (s.tower v).mean?
      else { (s.pass v).abandon with sweep := none } := by
  have frame : OnlyChanges [.engine, .motion, .trim, .notice] s (changeoverTrim carry (evalRestricted s.rested)) :=
    ((rested_frame s).mono (by decide)).trans (((evalRestricted_frame _).mono (by decide)).trans
      ((changeoverTrim_frame _ _).mono (by decide)))
  have engine : (changeoverTrim carry (evalRestricted s.rested)).engine = (changeoverTargets s).engine :=
    (changeoverTrim_frame _ _).engine.trans ((evalRestricted_frame _).engine.trans (clearWatches_frame _ _).engine)
  have pass : (changeoverTrim carry (evalRestricted s.rested)).pass v
      = { (s.pass v).abandon with sweep := if (s.tower v).enabled then (s.pass v).sweep else none } := by
    have passes : (changeoverTargets s).engine.passes = s.dropped.engine.passes := (changeoverTargets_handing s).passes
    rw [State.pass, engine, passes]
    exact look_tab ..
  rw [State.beforeScan, beginPasses_pass, tower_congr frame.jobs, running_congr frame.jobs, pass]
  split
  · rfl
  · rfl

theorem changeoverTrim_rest : (changeoverTrim carry s).trim = { s.trim with
    zones := (changeoverTrim carry s).trim.zones, saturated := (changeoverTrim carry s).trim.saturated
    armed := (changeoverTrim carry s).trim.armed } := rfl

theorem beyondLimit_iff {limit : Nat} {x : Int} : beyondLimit limit x = true ↔ clampTrim limit x ≠ x := by
  simp only [beyondLimit, clampTrim, clampInt, Bool.or_eq_true, decide_eq_true_eq]
  omega

theorem changeoverTrim_saturated (u : TowerIdx) : look (changeoverTrim carry s).trim.saturated u = true
    ↔ carry = true ∧ ∃ z, (s.tower u).covers z = true
      ∧ clampTrim (s.tower u).trimLimit (s.trimOf u z).trim ≠ (s.trimOf u z).trim := by
  rw [changeoverTrim, setTrim_trim, look_tab, List.any_eq_true]
  simp only [mem_allZones, true_and, Bool.and_eq_true, beyondLimit_iff, and_assoc, exists_and_left]

theorem Trim.rest_trans {s b t : Trim} (zones : t = { b with zones := t.zones })
    (rest : b = { s with zones := b.zones, saturated := b.saturated, armed := b.armed }) :
    t = { s with zones := t.zones, saturated := t.saturated, armed := t.armed } := by rw [zones, rest]

theorem beforeScan_trim : (s.beforeScan carry).trim = (changeoverTrim carry s).trim := by
  have frame : OnlyChanges [.engine, .motion, .notice] s (evalRestricted s.rested) :=
    (rested_frame s).trans ((evalRestricted_frame _).mono (by decide))
  have towers (u) : (evalRestricted s.rested).tower u = s.tower u := tower_congr frame.jobs u
  rw [State.beforeScan, (beginPasses_frame _).trim, changeoverTrim, changeoverTrim, setTrim_trim, setTrim_trim]
  simp only [State.trimOf, towers, frame.trim]

theorem rested_motion : s.rested.motion = { s.motion with
    zones := s.rested.motion.zones, queue := s.rested.motion.queue, watch := s.rested.motion.watch } := by
  unfold State.rested
  exact cleared_motion _ (changeoverTargets_handing s) (dropped_frame s).motion

theorem rested_limits : s.rested.motion.cap = s.motion.cap ∧ s.rested.motion.concurrency = s.motion.concurrency
    ∧ s.rested.motion.restricted = s.motion.restricted := by
  rw [rested_motion]
  exact ⟨rfl, rfl, rfl⟩

theorem rested_watch (u : TowerIdx) : look s.rested.motion.watch u = false := by
  rw [State.rested, clearWatches_motion]
  exact (look_tab ..).trans (Bool.and_false _)

theorem rested_sweeps : s.rested.sweeps = s.sweeps := by
  unfold State.rested
  rw [clearWatches_sweeps, (changeoverTargets_handing s).sweeps, sweeps_congr (congrArg Motion.queue (dropped_frame s).motion)]

theorem rested_records {k : Fin 8} (settled : k ≠ 7) : look s.rested.notice.records k = look s.notice.records k := by
  rw [State.rested, (clearWatches_frame _ _).notice, (changeoverTargets_handing s).records k settled, (dropped_frame s).notice]

theorem rested_settled : ∃ us : List TowerIdx, us.Pairwise (· < ·) ∧ (∀ u, TowerSettles s.dropped u → u ∈ us)
    ∧ (∀ u ∈ us, look s.motion.watch u = true) ∧ (∀ u ∈ us, TargetsFit s.dropped u → TowerSettles s.dropped u)
    ∧ look s.rested.notice.records 7 = settledBy s.cycle.sheetCount us (look s.notice.records 7) := by
  obtain ⟨us, sub, all, set, fit, record⟩ := changeoverTowers_settled allTowers_nodup s.dropped
  rw [(dropped_frame s).motion] at set
  rw [(dropped_frame s).cycle, (dropped_frame s).notice] at record
  refine ⟨us, (List.pairwise_lt_finRange 12).sublist sub, fun u => all u (mem_allTowers u), set, fit, ?_⟩
  have same : changeoverTargets s = allTowers.foldl (fun s t => changeoverTower t s) s.dropped := changeoverTargets_eq s
  rw [State.rested, (clearWatches_frame _ _).notice, same]
  exact record

theorem towerSettles_dropped (u : TowerIdx) : TowerSettles s.dropped u ↔ TowerSettles s u := by
  have frame := dropped_frame s
  simp only [TowerSettles, ComesToRest, tower_congr frame.jobs, zone_congr frame.motion, frame.motion]

theorem targetsFit_dropped (u : TowerIdx) : TargetsFit s.dropped u
    ↔ ∀ z g, (s.tower u).covers z = true → s.targetOf u z = some g → g.k ≤ (s.tower u).keyMax := by
  simp only [TargetsFit, tower_congr (dropped_frame s).jobs, dropped_targetOf]
  refine forall₂_congr fun z g => ?_
  cases (s.tower u).covers z <;> simp

end

/-! ### What the Dispatch Scan leaves of them -/

theorem Scanned.restricted {s t : State} (h : Scanned s t) : t.motion.restricted = s.motion.restricted := by rw [h.motion]

/-- A rewritten Key Target that a Dispatch Scan finds has been handed on. -/
theorem Scanned.handedOn {y b t : State} {u : TowerIdx} {z : ZoneIdx} {g : Target} {k : Nat} (scanned : Scanned b t)
    (zone : b.zone u z = (rewriteTarget u z g k y).zone u z) (target : b.targetOf u z = some { g with k := k })
    (exhausted : ScanExhausted t) : HandedOn y t u z { g with k := k } := by
  refine ⟨(scanned.targetOf u z).trans target, (scanned.zones u z).congr zone.symm ?_ rfl, fun _ _ => exhausted⟩
  rw [handTarget_targetOf, putTarget_targetOf, if_pos ⟨rfl, rfl⟩, target]

section
variable {s t : State} {carry : Bool} (h : Scanned (s.beforeScan carry) t)
include h

theorem Scanned.changeover_zone (u : TowerIdx) (z : ZoneIdx) : t.targetOf u z = (changeoverTargets s).targetOf u z
    ∧ ∀ b : State, b.zone u z = (changeoverTargets s).zone u z → b.targetOf u z = (changeoverTargets s).targetOf u z →
      StartedOrSame b t u z := by
  refine ⟨(h.targetOf u z).trans (beforeScan_targetOf s carry u z), fun b zone target => (h.zones u z).congr ?_ ?_ rfl⟩
  · rw [zone, beforeScan_zone]
  · rw [target, beforeScan_targetOf]

theorem Scanned.changeover_withdrawn {u : TowerIdx} {z : ZoneIdx} (placeless : (s.tower u).covers z = false) :
    t.targetOf u z = none ∧ t.zone u z = { s.zone u z with state := (s.zone u z).state.withoutTarget } := by
  obtain ⟨none, zone⟩ := changeoverTargets_withdrawn s u z placeless
  obtain ⟨target, started⟩ := h.changeover_zone u z
  exact ⟨target.trans none, ((started _ rfl rfl).of_none none).trans zone⟩

theorem Scanned.changeover_fixed (u : TowerIdx) (z : ZoneIdx) :
    (t.zone u z).actual = (s.zone u z).actual ∧ (t.zone u z).settleUntil = (s.zone u z).settleUntil := by
  have fixed := (changeoverTargets_handing s).fixed u z
  rw [zone_congr (dropped_frame s).motion, ← beforeScan_zone s carry] at fixed
  have started := (h.zones u z).fixed
  exact ⟨started.1.trans fixed.1, started.2.trans fixed.2⟩

theorem Scanned.changeover_pass (v : TowerIdx) : t.pass v
    = if (s.tower v).enabled then (s.pass v).abandon.caused (look s.running.ready v) (s.tower v).mean?
      else { (s.pass v).abandon with sweep := none } := by
  rw [State.pass, h.frame.engine]
  exact beforeScan_pass s carry v

theorem Scanned.changeover_trimOf (u : TowerIdx) (z : ZoneIdx) : t.trimOf u z
    = { (s.trimOf u z).resetAveraging with trim := carriedTrim carry (s.tower u) z (s.trimOf u z).trim } := by
  have before : (s.beforeScan carry).trimOf u z
      = { (s.trimOf u z).resetAveraging with trim := carriedTrim carry (s.tower u) z (s.trimOf u z).trim } := by
    rw [trimOf_congr (beforeScan_trim s carry), changeoverTrim_trimOf]
  rw [h.averaging u z (by rw [before]; rfl), before]

theorem Scanned.changeover_saturated (u : TowerIdx) : look t.trim.saturated u = true
    ↔ carry = true ∧ ∃ z, (s.tower u).covers z = true
      ∧ clampTrim (s.tower u).trimLimit (s.trimOf u z).trim ≠ (s.trimOf u z).trim := by
  rw [h.trim, beforeScan_trim, changeoverTrim_saturated]

theorem Scanned.changeover_armed (u : TowerIdx) : look t.trim.armed u = true := by
  rw [h.trim, beforeScan_trim]
  exact look_tab ..

theorem Scanned.changeover_trim : t.trim
    = { s.trim with zones := t.trim.zones, saturated := t.trim.saturated, armed := t.trim.armed } := by
  refine Trim.rest_trans h.trim ?_
  rw [beforeScan_trim]
  exact changeoverTrim_rest s carry

theorem Scanned.changeover_watch (u : TowerIdx) : look t.motion.watch u = false := by
  rw [h.watch, beforeScan_motion, evalRestricted_watch, rested_watch]

theorem Scanned.changeover_limits : SameLimits s t := by
  unfold SameLimits
  rw [h.motion, beforeScan_motion, evalRestricted_motion, rested_motion]
  exact ⟨rfl, rfl, rfl⟩

theorem Scanned.changeover_sweeps : t.sweeps = s.sweeps := by
  rw [h.sweeps, sweeps_congr (congrArg Motion.queue (beforeScan_motion s carry)), evalRestricted_sweeps, rested_sweeps]

theorem Scanned.changeover_reevaluated : Reevaluated s t fun u => (s.tower u).enabled := by
  obtain ⟨cap, concurrency, restricted⟩ := rested_limits s
  refine evalRestricted_reevaluated (c := s.rested) cap concurrency restricted (rested_records s (by decide)) ?_ (fun v => ?_) ?_ ?_
  · rw [(rested_frame s).cycle]
  · rw [tower_congr (rested_frame s).jobs]
  · rw [h.restricted, beforeScan_motion]
  · rw [h.notice, beforeScan_notice]

theorem Scanned.changeover_records {k : Fin 8} (restricted : k ≠ 2) :
    look t.notice.records k = look s.rested.notice.records k := by
  rw [h.notice, beforeScan_notice, evalRestricted_records _ restricted]

end

/-! ### The exchange of the jobs (R128, steps 1 and 2) -/

section
variable {s : State} {j : SlotIdx} {job : Job} (armed : look s.jobs j = .held .armed job)
include armed

theorem isRunning_iff_of_armed (i : SlotIdx) : s.isRunning i = true ↔ s.runningSlot = some i := by
  have stopped : s.isRunning j = false := by
    rw [State.isRunning, armed]
    rfl
  refine ⟨fun running => runningSlot_eq running fun x other => ?_, isRunning_of_runningSlot⟩
  have apart : j ≠ i := by
    rintro rfl
    rw [stopped] at running
    cases running
  rwa [slot_other_unique other apart]

theorem exchanged_buffers (i : Fin 4) : look (s.exchanged j).buffers i = (look s.buffers i).filter fun b => !s.isRunning b.slot := by
  have running := isRunning_iff_of_armed armed
  unfold State.exchanged exchangeJobs
  have same : (s.setCycle { s.cycle with armed := none, hold := tab fun u => (look (look s.jobs j).job.towers u).enabled }).runningSlot
      = s.runningSlot := rfl
  rw [same, putJob_buffers]
  cases slot : s.runningSlot with
  | none =>
    have stopped (k) : s.isRunning k = false := Bool.eq_false_iff.2 fun h => by
      have named := (running k).1 h
      rw [slot] at named
      cases named
    change look s.buffers i = _
    simp only [stopped, Bool.not_false]
    cases look s.buffers i with
    | none => rfl
    | some b => rfl
  | some k =>
    have named (b : Buffer) : s.isRunning b.slot = (b.slot == k) := by
      rw [Bool.eq_iff_iff, running, slot, beq_iff_eq, Option.some.injEq]
      exact eq_comm
    simp only [named]
    exact emptySlot_buffer ..

theorem exchanged_ready (u : TowerIdx) : look (s.exchanged j).running.ready u = look job.ready u := by
  rw [running_of_runningSlot (exchanged_runningSlot armed), exchanged_job armed, if_pos rfl]
  rfl

end

end Sys2Proof.Machine
end

section
/-! PROOF. The taking of a changeover (R66, R97, R117, R128). -/

set_option Elab.async false

namespace Sys2Proof.Machine

theorem Cycle.kept_of_exchange {c d : Cycle} {hold : Vector Bool 12} (h : c = { d with armed := none, hold := hold }) :
    c.phase = d.phase ∧ c.sheetCount = d.sheetCount := by
  subst h
  exact ⟨rfl, rfl⟩

theorem takeChangeover_cycle_of_armed {s : State} {j : SlotIdx} {job : Job} (armed : look s.jobs j = .held .armed job) (carry : Bool) :
    (takeChangeover ⟨j, carry⟩ s).cycle
      = { s.cycle with armed := none, hold := tab fun u => (look job.towers u).enabled } := by
  have left := takeChangeover_cycle ⟨j, carry⟩ s
  rw [armed] at left
  exact left

/-- Settles O51: the jobs exchanged, then the zones, the passes, the trims and Restricted Motion block by block. -/
theorem takingAChangeoverExchangesTheJobs : Obligations.TakingAChangeoverExchangesTheJobs := by
  unfold Obligations.TakingAChangeoverExchangesTheJobs
  intro s j carry job armed
  have cycle := takeChangeover_cycle_of_armed armed carry
  have left : takeChangeover ⟨j, carry⟩ s = (s.exchanged j).afterExchange carry := takeChangeover_eq ⟨j, carry⟩ s
  have whole := takeChangeover_frame ⟨j, carry⟩ s
  have exchanged := exchanged_frame s j
  have jobsOf := exchanged_job armed
  have towerOf := exchanged_tower armed
  have readyOf := exchanged_ready armed
  have buffersOf := exchanged_buffers armed
  generalize takeChangeover ⟨j, carry⟩ s = t at cycle left whole ⊢
  generalize s.exchanged j = x at *
  have frame : OnlyChanges [.engine, .motion, .trim, .notice] x t := left ▸ afterExchange_frame x carry
  have exhausted : ScanExhausted t := left ▸ dispatchScan_exhausted _
  have scanned : Scanned (x.beforeScan carry) t := left ▸ dispatchScan_scanned _
  have zoneS (u z) : x.zone u z = s.zone u z := zone_congr exchanged.motion u z
  have targetS (u z) : x.targetOf u z = s.targetOf u z := targetOf_congr exchanged.engine u z
  have trimS (u z) : x.trimOf u z = s.trimOf u z := trimOf_congr exchanged.trim u z
  have passS (u) : x.pass u = s.pass u := congrArg (fun e : Engine => look e.passes u) exchanged.engine
  obtain ⟨phase, sheet⟩ := Cycle.kept_of_exchange (frame.cycle.symm.trans cycle)
  intro t' rec' place clamped abandoned mean unmoved settles
  have same : t' = t := rfl
  clear_value t'
  subst same
  have covered (u z) : place u z ↔ (look job.towers u).covers z = true := TowerSettings.covers_eq_true.symm
  have uncovered (u z) : (look job.towers u).covers z = false ↔ ¬ place u z := by rw [covered, Bool.not_eq_true]
  have settlesIff (u) : TowerSettles x u ↔ settles u := by
    simp only [TowerSettles, ComesToRest, towerOf, zoneS, exchanged.motion, MotionState.unsettled_eq_false, uncovered]
    rfl
  have limits := scanned.changeover_limits
  have pass := scanned.changeover_pass
  have trimOf := scanned.changeover_trimOf
  have reevaluated := scanned.changeover_reevaluated
  simp only [towerOf, readyOf, passS] at pass
  simp only [towerOf, trimS] at trimOf
  refine ⟨whole, cycle, ?_, fun i other => ?_, fun i => ?_, fun u z covers fits => ?_, fun u z g covers target beyond => ?_,
    fun u z placeless => ?_, fun u z => ?_, fun u on => ?_, fun u off => ?_, fun u z covers carries => ?_, fun u z drops => ?_,
    fun u => ?_, scanned.changeover_armed, ?_, scanned.changeover_watch, ?_, ?_, ?_, ?_, fun k restricted settled => ?_, exhausted⟩
  · rw [frame.jobs, jobsOf, if_pos rfl]
  · rw [frame.jobs, jobsOf, if_neg other]
  · rw [frame.buffers, buffersOf]
  · have same := changeoverTargets_kept_target x u z (by rw [towerOf, ← covered]; exact covers) fun g target => by
      rw [targetS] at target
      obtain none | ⟨g', target', within⟩ := fits
      · rw [none] at target
        cases target
      · rw [target'] at target
        rw [towerOf, ← Option.some.inj target]
        exact within
    obtain ⟨target, started⟩ := scanned.changeover_zone u z
    exact ⟨target.trans (same.target.trans (targetS u z)), started s (by rw [same.zone, zoneS]) (by rw [same.target, targetS])⟩
  · have base : SameAt s x u z := ⟨zoneS u z, targetS u z, moves_congr (congrArg Motion.queue exchanged.motion) u z⟩
    obtain ⟨zone, rewritten⟩ := changeoverTargets_rewritten x u z (by rw [towerOf, ← covered]; exact covers)
      ((targetS u z).trans target) (by rw [towerOf]; exact beyond) frame.jobs phase.symm base
    rw [towerOf] at zone rewritten
    exact scanned.handedOn ((beforeScan_zone x carry u z).trans zone) ((beforeScan_targetOf x carry u z).trans rewritten) exhausted
  · obtain ⟨target, zone⟩ := scanned.changeover_withdrawn (u := u) (z := z) (by rw [towerOf, uncovered]; exact placeless)
    refine ⟨target, ?_⟩
    rw [zone, zoneS]
    generalize s.zone u z = w
    obtain ⟨state, actual, commanded, tag, timer, settleUntil⟩ := w
    cases state <;> rfl
  · rw [← zoneS]
    exact scanned.changeover_fixed u z
  · rw [pass, if_pos on]
    rfl
  · rw [pass, if_neg (by rw [off]; decide)]
    rfl
  · rw [trimOf, carriedTrim, carries, (covered u z).1 covers, if_pos (by decide)]
    rfl
  · rw [trimOf, carriedTrim, if_neg ?_]
    · rfl
    · rw [Bool.and_eq_true]
      rintro ⟨carries, covers⟩
      obtain placeless | off := drops
      · exact placeless ((covered u z).2 covers)
      · rw [off] at carries
        cases carries
  · rw [scanned.changeover_saturated, towerOf]
    simp only [trimS, ← covered]
    rfl
  · rw [← exchanged.trim]
    exact scanned.changeover_trim
  · unfold SameLimits at limits ⊢
    rwa [exchanged.motion] at limits
  · exact scanned.changeover_sweeps.trans (sweeps_congr (congrArg Motion.queue exchanged.motion))
  · unfold Reevaluated at reevaluated ⊢
    simp only [towerOf, exchanged.motion, exchanged.notice, sheet] at reevaluated
    exact reevaluated
  · obtain ⟨us, sorted, all, set, fit, record⟩ := rested_settled x
    simp only [towerSettles_dropped, targetsFit_dropped, settlesIff] at all fit
    rw [exchanged.motion] at set
    rw [sheet, exchanged.notice] at record
    refine ⟨us, sorted, all, set, fun u member fits => fit u member fun z g covers target => ?_, ?_⟩
    · rw [towerOf] at covers ⊢
      exact fits z g ((covered u z).2 covers) ((targetS u z).symm.trans target)
    · rw [scanned.changeover_records (by decide), record]
      rfl
  · rw [scanned.changeover_records restricted, rested_records x settled, exchanged.notice]

end Sys2Proof.Machine
end
